-- ==== Sys2Proof/Word.lean ====
section
/-! DEFINITION. The byte and word types of the part and their plainest arithmetic: saturation, clamping,
ceiling division (00_scope, Conventions: "Saturation", "Configuration values", "Numbers"). -/

namespace Sys2Proof

/-- A byte of a frame, of the tape, of the cartridge memory or of a block. -/
abbrev Byte := BitVec 8

/-- A two-byte parameter or field. -/
abbrev Word16 := BitVec 16

/-- A word of the Data Port, a CRC-32, or a four-byte parameter. -/
abbrev Word32 := BitVec 32

/-- 2^32 - 1, the top of every four-byte count. -/
abbrev max32 : Nat := 4294967295

/-- 65,535, the top of every two-byte count. -/
abbrev max16 : Nat := 65535

/-- A count that saturates at `top` (00_scope, Saturation). -/
def satAdd (top a b : Nat) : Nat := min top (a + b)

/-- A value outside its range is taken as the nearest end (00_scope, Configuration values). -/
def clamp (lo hi v : Nat) : Nat := if v < lo then lo else if hi < v then hi else v

/-- ceil(a / b) for b > 0. -/
def ceilDiv (a b : Nat) : Nat := (a + b - 1) / b

end Sys2Proof
end

