-- ==== Sys2Proof/Syntax.lean ====
section
/-! DEFINITION. The commands of the part: one constructor of `Instr` for each row of spec/opcode_table.json, with the
operands the command brings from outside (a request's tag and parameters, a Data Port word, a sensor's level, what the
read elements returned). Nothing here says what a command does. -/

namespace Sys2Proof

/-- What one read element returned over one segment: whether its signal was lost at any point, the bytes it decoded
(28 header bytes, 16,384 payload or parity bytes, 4 CRC bytes) and the amplitude it measured (R6, R7, R173). -/
structure TrackRead where
  lost : Bool
  bytes : List Byte
  amplitude : Byte
  deriving DecidableEq, Repr

/-- What the eighteen read elements have for a segment boundary: the segment that ended (used under a READ plan, R98) and
the segment three data ordinals back (used when a copy's check is due, R125). An empty list is eighteen lost tracks. -/
structure BoundaryReads where
  ended : List TrackRead
  check : List TrackRead
  deriving DecidableEq, Repr

/-- The physical direction of one step of reel motion on TACH_A and TACH_B (R70). -/
inductive ReelDirection where
  | forward
  | reverse
  deriving DecidableEq, Repr

/-- The direction that DP_DIR shows: words come in from the bridge, or go out to it (R104). -/
inductive PortDirection where
  | inward
  | outward
  deriving DecidableEq, Repr

/-- The four requesters of the buffer arbiter (R102). -/
inductive Requester where
  | tapeChannel
  | compressionEngine
  | dataPort
  | catalogEngine
  deriving DecidableEq, Repr

/-- A medium record as LOAD MEDIUM RECORDS carries it: 24 bytes, fields as section 11.9 gives them. -/
structure WireRecord where
  serial : List Byte
  mounts : Word16
  lastMountSeq : Word32
  lastFailureRate : Word16
  charge : Word16
  suspectCount : Byte
  lastAttribution : Byte
  deriving DecidableEq, Repr

/-- The commands. A request's first operand is the tag byte of its frame (R191). -/
inductive Instr where
  /-- nRESET, with the levels of CART_PRESENT, WP_TAB (protect position) and LEADER_SENSE found (R66). -/
  | powerOnReset (cartPresent wpTab leaderSense : Bool)
  /-- The bytes clocked on LNK_IN between the fall and the rise of LNK_SEL (R190). -/
  | linkTransaction (bytes : List Byte)
  | status (tag : Byte)
  | ackAttention (tag kinds : Byte)
  | configure (tag : Byte) (pairs : List (Byte × Word32))
  | readConfiguration (tag : Byte)
  | queryCatalog (tag selector : Byte) (value : Word32)
  | setZone (tag zone enabled : Byte) (base : Word32) (k access compression : Byte)
  | readZones (tag : Byte)
  | readHeadTable (tag : Byte)
  | readCondition (tag : Byte)
  | loadCondition (tag : Byte) (ci meter : Word32) (attribution : Byte)
  | readMediumRecords (tag : Byte)
  | loadMediumRecords (tag : Byte) (records : List WireRecord)
  | abort (tag : Byte)
  | resetDrive (tag : Byte)
  | load (tag : Byte)
  | unload (tag : Byte)
  | locate (tag target : Byte) (block : Word32)
  | writeBlocks (tag : Byte) (n : Word16)
  | writeMarkers (tag : Byte) (n : Word16)
  | readBlocks (tag : Byte) (n : Word16)
  | spaceBlocks (tag direction : Byte) (n : Word32)
  | spaceMarkers (tag direction : Byte) (n : Word32)
  | flush (tag : Byte)
  | retireFrom (tag : Byte) (b : Word32)
  | scanHead (tag : Byte)
  /-- The rise of CART_PRESENT, with WP_TAB as sampled (true: protect position) (R48). -/
  | insertion (wpTab : Bool)
  /-- What the Cartridge Memory Reader returned: no record, or its bytes (R16, R48). -/
  | cartridgeMemoryReadDone (record : Option (List Byte))
  | removal
  | ejectDone
  | leaderCapture
  | captureTimeout
  | tensionReached
  | unthreadDone
  | unthreadTimeout
  /-- The read-back of a cartridge memory write: no record, or its bytes (R50). -/
  | cartridgeMemoryWriteDone (readBack : Option (List Byte))
  | cleaningPassEnd
  /-- The next segment boundary in the direction given (`upstream`: against the recording direction) (R70). -/
  | segmentBoundary (upstream : Bool) (reads : BoundaryReads)
  /-- A captured servo mark and its segment, with the reads of the boundaries a forward correction carries over (R71). -/
  | servoMarkCapture (segment : Nat) (reads : List BoundaryReads)
  | positionLost
  | motorStall
  | retensionComplete
  | relaxTimeout
  | reelCountRewindDone
  | reacquisitionFailed
  | locateMotionDone
  | controlledStopRest
  /-- The results of the checks still due at the end of the data area, oldest segment first (R125). -/
  | endOfDataAreaRest (checks : List (List TrackRead))
  | kilosegmentEvent
  | decayRunExpiry
  | pcCommit
  | planOffer
  | fillTimeout
  | governorWindowEnd
  /-- A word that the bridge offers, DP_DIR showing the in direction (R104). -/
  | lengthWordIn (word : Word32)
  | dataWordIn (word : Word32)
  | blockAdmission
  | blockPlacement
  | fillingSlotOpen
  /-- The end of a burst, with the requesters whose request arrived since the last grant, and whether the tape reached a
  burst of the Tape Channel before it was served (R102). -/
  | bufferBurstEnd (arrivals : List Requester) (tapeLate : Bool)
  | drainingStart
  | blockExpansion
  /-- A word that the bridge asks for, DP_DIR showing the out direction (R104). -/
  | lengthWordOut
  | dataWordOut
  | successorHeaderLocated
  | searchExpired
  | writeRestart
  | readRestart
  /-- The end of the scanner's signal or noise window, with the level measured in it (R176). -/
  | scanWindowEnd (level : Byte)
  /-- One step of reel motion, with the reads for the boundary it may complete (R70). -/
  | tachCount (direction : ReelDirection) (reads : BoundaryReads)
  | immediateStopRest
  | windBackDone
  deriving DecidableEq, Repr

end Sys2Proof
end

