-- ==== Sys2Proof/Decode.lean ====
section
/-! DEFINITION. The command that a word spells by the table's bits: spec/opcode_table.json gives no row bits, so no word
spells a command. Requests reach the part as frames of bytes, which `Sys2Proof.Machine.parseFrame` reads (R190, R191). -/

namespace Sys2Proof

/-- No row of the table gives bits. -/
def decodeTableWord (_nbits _w : Nat) : Option Instr := none

end Sys2Proof
end

