-- ==== Sys2Proof/Machine/Records.lean ====
section
/-! DEFINITION. The named values and records of the manual that the state is made of: status codes, states, records of the
catalog, the cartridge memory, the queue, the head and the responses. Types only, each with the rule that gives it. -/

namespace Sys2Proof.Machine

/-- The status codes (R199). -/
inductive Code where
  | ok | rebuilt | rebuiltShort | earlyWarning | markerMet | endOfData | beginningOfData
  | busy | badRequest | notReady | aborted | abortRefused | nothingToAbort | deferredError
  | writeProtected | mediumUnreadable | mediumFault | cleanerExpired | catalogNotSaved
  | zoneProtected | zoneConflict | catalogFull
  | badBlockLength | writeFailed | readFailed | streamFault | endOfMedium
  | headFault | threadFault | positionLost | motorStall
  deriving DecidableEq, Repr

/-- The eight attention kinds, bits 0 to 7 (section 11.7). -/
inductive Kind where
  | mediumChange | deferredError | cleaningCall | headCondition | mediumSuspect | zoneOverlap | scanDone | earlyWarning
  deriving DecidableEq, Repr

/-- The Medium States (R46). -/
inductive MediumState where
  | empty | seated | threading | mounting | rebuilding | mounted | unmounting | unthreading | cleaning | ejected | stuck
  deriving DecidableEq, Repr

/-- The Transport States (R67). -/
inductive TransportState where
  | parked | threadMotion | stopped | relaxed | locating | streaming | backhitch | turnaround
  deriving DecidableEq, Repr

/-- The tension the loops are asked for (R67, R68). -/
inductive Tension where
  | none | threading | hold | working
  deriving DecidableEq, Repr

/-- The Channel Synthesizer's lock state (R85). -/
inductive SynthState where
  | off | acquiring | locked
  deriving DecidableEq, Repr

/-- The block whose work a stream carries, and for the Catalog Engine the work (R72). -/
inductive Owner where
  | write | read | load | save | rebuild | fineSearch | markerScan | scan | cleaning
  deriving DecidableEq, Repr

/-- A segment plan (R74). `write` names slot, stripe and copy; `catalogCopy` is the WRITE plan of a catalog save (R3). -/
inductive Plan where
  | write (slot stripe copy : Nat)
  | catalogCopy (copy : Nat)
  | gap
  | read (slot : Nat)
  | pass
  | acquiring (step : Nat)
  deriving DecidableEq, Repr

/-- The Position Counter's three fields (R70); the end zones are segments -32 to -1 and 64,000 to 64,031. -/
structure Pos where
  wrap : Nat
  seg : Int
  tach : Nat
  deriving DecidableEq, Repr

/-- A segment of the tape. -/
structure SegAddr where
  wrap : Nat
  seg : Int
  deriving DecidableEq, Repr

/-- A motion request of a block to the Transport Controller (R77 to R79). `stream` names the owner and segment t;
`locateEnd` is a LOCATE's motion to a rest point; `unmountRewind` goes to wrap 0, segment 0, tach 0 (R61);
`reelRewind` is the unmount's rewind by reel count after a motion fault (R61, R77). -/
inductive MotionReq where
  | stream (owner : Owner) (target : SegAddr)
  | locateEnd (target : SegAddr)
  | unmountRewind
  | reelRewind
  deriving DecidableEq, Repr

/-- The motion under way. -/
inductive Motion where
  | idle
  /-- RELAXED, the tension rising, with the request that waits for it (R84). -/
  | retension (req : MotionReq)
  /-- The rewind by reel count (R77). -/
  | rewind (req : MotionReq)
  /-- The re-acquisition of the servo marks (R77). -/
  | reacquire (req : MotionReq)
  /-- Locate motion to the request's rest point (R79). -/
  | travel (req : MotionReq)
  /-- A stream of the owner: its run-up, its segments, and the manoeuvres within it. -/
  | stream (owner : Owner)
  deriving DecidableEq, Repr

/-- A stop demanded of, or being carried out by, the Transport Controller (R80, R82, R83). -/
inductive Stop where
  | none
  /-- A controlled stop to be begun at the next boundary, with its resume segment if it names one. -/
  | demanded (resume : Option SegAddr)
  /-- The backhitch, or the turnaround that carries the stop, under way. -/
  | controlled (resume : Option SegAddr)
  /-- An immediate stop or a position loss: decelerating. -/
  | immediate
  /-- Decelerating into the end zone after wrap 63 (R82). -/
  | endOfArea
  deriving DecidableEq, Repr

/-- The end-of-data record (R17, R16). -/
structure Eod where
  session : Nat
  stripe : Nat
  block : Nat
  deriving DecidableEq, Repr

/-- Cartridge kinds of the identity copy (R47). -/
inductive CartridgeKind where
  | data | cleaning
  deriving DecidableEq, Repr

/-- The record fields of the identity copy and of the cartridge memory (R16, R47). -/
structure CmRecord where
  serial : List Byte
  kind : CartridgeKind
  everWritten : Bool
  valid : Bool
  passes : Nat
  loadCount : Nat
  sessionCounter : Nat
  eod : Eod
  deriving DecidableEq, Repr

/-- The identity copy (R47): `record` is absent when the kind is UNKNOWN; `tab` true is PROTECTED. -/
structure Identity where
  record : Option CmRecord
  tab : Bool
  memoryFault : Bool
  deriving DecidableEq, Repr

/-- Access rules of a zone (R29). -/
inductive Access where
  | readWrite | readOnly | writeOnce
  deriving DecidableEq, Repr

/-- A zone record (R29). -/
structure Zone where
  enabled : Bool
  base : Nat
  k : Nat
  access : Access
  compression : Bool
  deriving DecidableEq, Repr

/-- An extent record (R19). -/
structure Extent where
  session : Nat
  wrap : Nat
  first : Int
  last : Int
  firstStripe : Nat
  stripes : Nat
  firstBlock : Nat
  blocks : Nat
  markers : Nat
  raw : Nat
  stored : Nat
  rewrites : Nat
  gaps : Nat
  merged : Bool
  deriving DecidableEq, Repr

/-- A reserved extent record (R22). -/
structure Reservation where
  wrap : Nat
  first : Int
  deriving DecidableEq, Repr

/-- The open extent of a write session (R118, R22): its record while it is reserved, or the record growing in the table. -/
inductive OpenExtent where
  | reserved (r : Reservation)
  | growing (e : Extent)
  deriving DecidableEq, Repr

/-- The Current Block location (R17). `headerOnly` is set while the recorded copy is known to read HEADER_ONLY (R143). -/
structure Location where
  stripe : Nat
  wrap : Nat
  seg : Int
  atZero : Bool
  headerOnly : Bool
  deriving DecidableEq, Repr

/-- The append point (R17); the end of the data area is wrap 63, segment -1 (R137). -/
structure AppendPoint where
  wrap : Nat
  seg : Int
  stripe : Nat
  deriving DecidableEq, Repr

/-- The stripe header (R8, layout table). `firstOffset` none is NONE; `kind` true is DATA, false CATALOG. -/
structure StripeHeader where
  stripe : Nat
  session : Nat
  firstPiece : Nat
  firstOffset : Option Nat
  copy : Nat
  used : Nat
  wrap : Nat
  seg : Int
  isData : Bool
  starts : Nat
  markers : Nat
  deriving DecidableEq, Repr

/-- A block header as its 16 bytes give it (R14, layout table). -/
structure BlockHeader where
  number : Nat
  rawLen : Nat
  flags : Byte
  storedLen : Nat
  check : Byte
  crc : Word32
  deriving DecidableEq, Repr

/-- An ending-block entry of a stripe account (R111). -/
structure EndingBlock where
  number : Nat
  rawLen : Nat
  storedLen : Nat
  isMarker : Bool
  deriving DecidableEq, Repr

/-- A stripe account (R111). -/
structure Account where
  firstPiece : Nat
  firstOffset : Option Nat
  starts : Nat
  markers : Nat
  ending : List EndingBlock
  deriving DecidableEq, Repr

/-- The states of a stripe slot, over the four directions (R88). -/
inductive SlotState where
  | free
  | filling | ready | inFlight
  | loading | decoded | draining
  | intake | build | outflow
  | image
  deriving DecidableEq, Repr

/-- The direction a slot serves (R88). -/
inductive Direction where
  | write | read | stage | catalog
  deriving DecidableEq, Repr

/-- A slot record with the payload bytes it holds (R88). `fill` is the length of `payload`: bytes placed (WRITE) or not yet
taken by the drainer (READ). `account` serves WRITE slots, `header` READ slots. -/
structure Slot where
  state : SlotState
  stripe : Option Nat
  copies : Nat
  planned : Bool
  failedTracks : Nat
  payload : List Byte
  account : Option Account
  header : Option StripeHeader
  deriving DecidableEq, Repr

/-- The result of reading a segment (R7). -/
inductive SegOutcome where
  | clean | corrected | headerOnly | empty
  deriving DecidableEq, Repr

/-- The fault field of the Write Session record (R118). -/
structure SessionFault where
  code : Code
  point : Nat
  further : Nat
  ended : Bool
  deriving DecidableEq, Repr

/-- A fault report, and the Deferred Error record (R130, R132). -/
structure FaultReport where
  code : Code
  firstLost : Nat
  lost : Nat
  further : Nat
  deriving DecidableEq, Repr

/-- Write Session states (R118). -/
inductive WriteState where
  | idle | accepting | behind | flushing | failed
  deriving DecidableEq, Repr

/-- Read Session states (R139). -/
inductive ReadState where
  | idle | reading | spacing | ahead
  deriving DecidableEq, Repr

/-- What a segment of the session's run holds, as the Write Controller reports it (R124): a copy (stripe, copy number) or,
when absent, a gap. -/
structure SegReport where
  addr : SegAddr
  copy : Option (Nat × Nat)
  deriving DecidableEq, Repr

/-- A copy on tape whose read-after-write check is due (R125). `slot` is absent for a catalog copy. -/
structure Flight where
  addr : SegAddr
  slot : Option Nat
  stripe : Nat
  copy : Nat
  underrun : Bool
  deriving DecidableEq, Repr

/-- An open copy search (R146). `opening` and `firstCopy` are segments; `copies` are the copy numbers whose headers were read
(R148); `armed` is clear from a retry until the segment that becomes its opening segment is read again (R147). -/
structure Search where
  stripe : Nat
  opening : SegAddr
  firstCopy : Option SegAddr
  left : Nat
  retries : Nat
  copies : List Nat
  expired : Bool
  armed : Bool
  deriving DecidableEq, Repr

/-- The copy of a stripe whose header has been read in the read-ahead (R143). `again` is set while the read-ahead has gone back to
read the stripe again, its slot having been reclaimed (R96, R99). -/
structure Met where
  stripe : Nat
  addr : SegAddr
  decodable : Bool
  again : Bool
  deriving DecidableEq, Repr

/-- Element statuses (R170). -/
inductive ElementStatus where
  | unscanned | good | weak | dead
  deriving DecidableEq, Repr

/-- An entry of the Head Element Table (R170). -/
structure Element where
  amplitude : Nat
  noise : Nat
  margin : Nat
  status : ElementStatus
  failsMount : Nat
  failsLife : Nat
  deriving DecidableEq, Repr

/-- Attributions (R181). -/
inductive Attribution where
  | head | medium | clean
  deriving DecidableEq, Repr

/-- Cleaning Call levels (R185). -/
inductive CleaningLevel where
  | none | advised | required
  deriving DecidableEq, Repr

/-- A record of the Medium Record Table (R183). -/
structure MediumRecord where
  serial : List Byte
  mounts : Nat
  lastSeq : Nat
  lastRate : Nat
  charge : Nat
  suspect : Nat
  attribution : Attribution
  deriving DecidableEq, Repr

/-- The mount record (R182). -/
structure MountRecord where
  isOpen : Bool
  serial : List Byte
  index : Nat
  counted : Nat
  failed : Nat
  deriving DecidableEq, Repr

/-- The configuration values (R198, section 11.8). -/
structure Settings where
  restartThreshold : Nat
  rewriteThreshold : Nat
  retryLimit : Nat
  minStep : Nat
  maxStep : Nat
  relaxTimeout : Nat
  fillTimeout : Nat
  earlyDistance : Nat
  cleanThreshold : Nat
  cleanInterval : Nat
  weakThreshold : Nat
  deadThreshold : Nat
  scanA : Nat
  scanB : Nat
  scanStart : Nat
  follow : Bool
  defaultCompression : Bool
  zoneStrict : Bool
  mask : Byte
  deriving DecidableEq, Repr

/-- LOCATE's targets (section 11.9). -/
inductive LocateTarget where
  | block (b : Nat) | endOfData | beginning
  deriving DecidableEq, Repr

/-- The operations (R192), with their parameters. -/
inductive Op where
  | load | unload
  | locate (target : LocateTarget)
  | writeBlocks (n : Nat) | writeMarkers (n : Nat) | readBlocks (n : Nat)
  | spaceBlocks (forward : Bool) (n : Nat) | spaceMarkers (forward : Bool) (n : Nat)
  | flush | retireFrom (b : Nat) | scanHead
  deriving DecidableEq, Repr

/-- Where the outstanding operation stands: held until the seating ends (R48), in its flush phase (R134), past it and about
to begin its own work, at work, or aborted and on its way to its end. -/
inductive OpPhase where
  | held | flushing | flushed | working | aborting
  deriving DecidableEq, Repr

/-- The outstanding operation (R192). -/
structure Outstanding where
  op : Op
  tag : Byte
  phase : OpPhase
  deriving DecidableEq, Repr

/-- The Catalog Header fields that QUERY CATALOG and STATUS report (R33, R195). -/
structure HeaderReport where
  blockCount : Nat
  markerCount : Nat
  current : Nat
  positionValid : Bool
  location : Option Location
  append : AppendPoint
  session : Nat
  dirty : Bool
  eod : Eod
  extents : Nat
  deriving DecidableEq, Repr

/-- The transport snapshot of STATUS (R73): plans by kind. -/
structure TransportReport where
  state : TransportState
  pos : Pos
  known : Bool
  slips : Nat
  missing : Nat
  step : Nat
  pendingStep : Option Nat
  synth : SynthState
  lockedStep : Nat
  active : Option Plan
  standby : Option Plan
  dutyS : Nat
  dutyT : Nat
  deriving DecidableEq, Repr

/-- The slot counts and the oldest unconfirmed stripe (R103). -/
structure QueueReport where
  free : Nat
  filling : Nat
  ready : Nat
  inFlight : Nat
  loading : Nat
  decoded : Nat
  draining : Nat
  intake : Nat
  build : Nat
  outflow : Nat
  image : Nat
  oldest : Option (Nat × Nat × Nat)
  deriving DecidableEq, Repr

/-- The Write Session record as STATUS reports it, with the remaining distance and the Deferred Error record (R118, R132,
R136). -/
structure WriteReport where
  state : WriteState
  session : Option Nat
  openExtent : Option OpenExtent
  firstStripe : Option Nat
  highestStripe : Option Nat
  lastCopy : Option SegAddr
  requested : Nat
  accepted : Nat
  firstUnconfirmed : Option Nat
  fault : Option SessionFault
  remaining : Nat
  deferred : Option FaultReport
  deriving DecidableEq, Repr

/-- The Read Session record as STATUS reports it (R139). -/
structure ReadReport where
  state : ReadState
  request : Option Op
  delivered : Nat
  sent : Nat
  corrected : Nat
  nextDrain : Option Nat
  extent : Option Nat
  nextPlan : Option SegAddr
  highestMet : Option Nat
  searches : List Search
  halted : Bool
  deriving DecidableEq, Repr

/-- The last window of the Governor: S, P, D and target (R156, R157). -/
structure Window where
  s : Nat
  p : Nat
  d : Nat
  target : Nat
  deriving DecidableEq, Repr

/-- The rate meter's counts, or its report of the last window (R116). -/
structure Meter where
  rawAccepted : Nat
  placed : Nat
  taken : Nat
  deriving DecidableEq, Repr

/-- The governor report of STATUS (R168). -/
structure GovernorReport where
  step : Nat
  down : Nat
  quick : Bool
  minStep : Nat
  maxStep : Nat
  restartThreshold : Nat
  last : Window
  meter : Meter
  deriving DecidableEq, Repr

/-- The head section of STATUS (R195). -/
structure HeadReport where
  dead : Nat
  worn : Bool
  level : CleaningLevel
  ci : Nat
  postClean : Bool
  deriving DecidableEq, Repr

/-- The snapshot of STATUS, section by section (R195). -/
structure StatusReport where
  operation : Option (Op × Byte)
  waiting : Nat
  pendingKinds : Byte
  seenKinds : Byte
  mask : Byte
  attention : Bool
  medium : MediumState
  identity : Option Identity
  transport : TransportReport
  catalog : Option HeaderReport
  queue : QueueReport
  write : WriteReport
  read : ReadReport
  governor : GovernorReport
  head : HeadReport
  deriving DecidableEq, Repr

/-- The snapshot of READ CONDITION (R188); `rate` is the failure rate the mount's counts give so far. -/
structure ConditionReport where
  ci : Nat
  pc : Nat
  spread : List Nat
  decayRun : Nat
  meter : Nat
  level : CleaningLevel
  last : Attribution
  postClean : Bool
  worn : Bool
  mountSeq : Nat
  mount : MountRecord
  rate : Nat
  deriving DecidableEq, Repr

/-- The scanner state that READ HEAD TABLE shows: IDLE, or SCANNING with the next element and the pass number (R177). -/
inductive ScannerReport where
  | idle
  | scanning (element pass : Nat)
  deriving DecidableEq, Repr

/-- A save's outcome in the UNLOAD response (R61). -/
inductive SaveOutcome where
  | saved | notNeeded | notSaved
  deriving DecidableEq, Repr

/-- The payload of a response, as the rule of its request gives it. -/
inductive Payload where
  | none
  | status (r : StatusReport)
  /-- ACK ATTENTION: the kinds cleared and the kinds still pending (R196). -/
  | acknowledged (cleared pending : Byte)
  | settings (v : Settings)
  /-- QUERY CATALOG: the header, and the extent record with its index (R33). -/
  | catalog (h : HeaderReport) (extent : Option (Nat × Extent))
  | zone (z : Zone)
  | zones (zs : List Zone)
  | headTable (table : List Element) (dead : Nat) (worn : Bool) (scanner : ScannerReport)
  | condition (r : ConditionReport)
  /-- LOAD CONDITION: the values taken and the level (R188). -/
  | conditionTaken (ci meter : Nat) (last : Attribution) (level : CleaningLevel)
  | mediumRecords (rs : List MediumRecord)
  /-- LOAD MEDIUM RECORDS: records taken and dropped (R187). -/
  | recordsTaken (taken dropped : Nat)
  | deferred (r : FaultReport)
  /-- LOAD: the identity copy (R56), or the new passes remaining of a cleaning run (R63). -/
  | loaded (identity : Option Identity)
  | cleaned (passes : Nat)
  /-- UNLOAD: save outcome, whether the cartridge memory was written, the flush failure (R61). -/
  | unloaded (save : SaveOutcome) (written : Bool) (flush : Option FaultReport)
  /-- A write request: blocks accepted, Current Block, block count, the fault report (R122). -/
  | written (accepted current blockCount : Nat) (report : Option FaultReport)
  /-- READ BLOCKS: delivered, sent, Current Block, block count, stripes corrected (R149), with the failed stripe, its
  copies met and retries (R148), or the faulted block (R150). -/
  | read (delivered sent current blockCount corrected : Nat) (failed : Option (Nat × Nat × Nat)) (faulted : Option Nat)
  /-- SPACE: blocks or markers passed (R152, R153). -/
  | spaced (passed : Nat)
  | report (r : FaultReport)
  /-- SCAN HEAD: elements done, DEAD count, the entries (R177). -/
  | scanned (done dead : Nat) (table : List Element)
  deriving DecidableEq, Repr

/-- A response waiting in the response queue (R190, section 11.9). -/
structure Response where
  tag : Byte
  code : Code
  payload : Payload
  deriving DecidableEq, Repr

end Sys2Proof.Machine
end

