-- ==== Sys2Proof/Config.lean ====
section
/-! DEFINITION. What an implementation of the part fixes and the manual does not state: constants with no body, so that
nothing can be proved of a value the manual leaves open (assumptions 3 and 4), and the sizes the manual fixes. -/

namespace Sys2Proof

/-- The bytes of a response's payload. The manual gives what a payload carries and not its byte layout (section 11.9);
a payload of no content has length 0. DESIGN CHOICE, assumption 3. -/
opaque Config.payloadBytes : Machine.Payload → List Byte

/-- The duty a reel's tension loop has computed, in per mille, for the supply reel (false) or the take-up reel (true), at
the n-th change of the asked tension: the manual gives no formula (R68). DESIGN CHOICE, assumption 4. -/
opaque Config.reelDuty : Bool → Nat → Nat

/-- The number of stripe slots (R88). -/
abbrev Config.slotCount : Nat := 128

/-- The payload bytes of a stripe, a slot, the INTAKE ring and the longest block (R6, R88, R96). -/
abbrev Config.payloadSize : Nat := 262144

/-- The places of the response queue (R190). -/
abbrev Config.responsePlaces : Nat := 16

end Sys2Proof
end

