-- ==== Sys2Proof/Machine/State.lean ====
section
/-! DEFINITION. The state of the part, block by block as 00_scope's block diagram gives its owners, the reasons a step can
stop, and the state after power-on reset. Plain data throughout; the tape and the cartridge are outside the part and
reach it through the commands. -/

namespace Sys2Proof.Machine

/-- Reasons a command stops the machine. -/
inductive Fault where
  /-- Raised by SERVO_MARK_CAPTURE for a mark that names a segment above 63,999: the tape has no such segment (R1). Safe:
  no such mark exists, and nothing is claimed of the part after it. -/
  | noSuchSegment
  deriving DecidableEq, Repr

/-- Reasons a command is refused. -/
inductive Refusal where
  /-- Raised by `exec` for a command that has no meaning yet (none is left). Safe. -/
  | notModelled (mnemonic : String)
  deriving DecidableEq, Repr

/-! ### The Command Link Unit -/

/-- The link transaction state, the response queue and the record of the outstanding operation (R190, R192). -/
structure Link where
  /-- Responses waiting, oldest first (R190). -/
  queue : List Response
  /-- The refusal flag of the link byte (R190). -/
  refused : Bool
  outstanding : Option Outstanding
  /-- The bytes shifted out on LNK_OUT in the latest transaction: the model's record of the pin. -/
  shiftedOut : List Byte
  deriving DecidableEq, Repr

/-- The attention marks, one bit per kind, bits as in section 11.7 (R196). -/
structure Attention where
  pending : Byte
  seen : Byte
  deriving DecidableEq, Repr

/-! ### The Medium Controller -/

/-- What needed a cartridge memory write (R51). A SET ZONE carries its tag and the zone it would store. -/
inductive CmPurpose where
  | sessionOpening
  /-- A session's opening write that RESET DRIVE found under way: only the session number follows it (R121). -/
  | lateOpening
  /-- RETIRE FROM block b, with the location of b's header that its cut is made by (R25, R27); none at block count and for block 0. -/
  | retire (b : Nat) (place : Option Location)
  | setZone (tag : Byte) (index : Nat) (zone : Zone)
  | mountCompletion
  | unmount
  | cleaningEnd
  /-- A mount's or an unmount's write whose mount or unmount is over: it is carried to its end and changes the identity copy alone
  (R57, R65). -/
  | lateWrite
  deriving DecidableEq, Repr

/-- A cartridge memory write under way: its record, and whether it is the second writing (R50). -/
structure CmWrite where
  purpose : CmPurpose
  record : CmRecord
  second : Bool
  deriving DecidableEq, Repr

/-- A SET ZONE held while a cartridge memory write is in progress (R52). -/
structure HeldZone where
  tag : Byte
  index : Nat
  zone : Zone
  deriving DecidableEq, Repr

/-- What the Medium Controller is doing within its Medium State: the phases of seating, threading, mounting, unmounting,
cleaning and ejecting (chapter 3). -/
inductive MediumPhase where
  | idle
  /-- Seating: the Cartridge Memory Reader reads the record (R48). -/
  | readingRecord
  /-- EJECT_DRV is pushing the cartridge to the slot mouth (R49). -/
  | ejecting
  /-- THREAD_DRV is extended; capture attempt 1 to 3 (R54). -/
  | capturing (attempt : Nat)
  | winding
  /-- The unthread winds the tape back by reel count (R62). -/
  | windingBack
  /-- THREAD_DRV returns the leader block (R62). -/
  | returning
  /-- MOUNTING or REBUILDING: the catalog is being made (R55). -/
  | catalogWork
  /-- MOUNTING or REBUILDING: the post-clean scan (R56, R178). -/
  | postCleanScan
  /-- MOUNTING or REBUILDING: the load-count write (R56). -/
  | mountWrite
  | saving
  | unmountWrite
  | rewinding
  | cleanForward
  | cleanBack
  | cleanWrite
  deriving DecidableEq, Repr

/-- What follows the unthread under way: an eject or not, and the status of the outstanding operation, if the unthread
ends one (R54, R57, R61 to R65). -/
structure AfterUnthread where
  eject : Bool
  code : Option Code
  /-- STUCK was the state before (a further attempt, R62). -/
  retry : Bool
  deriving DecidableEq, Repr

/-- The values set aside with the unmount image, which stands in the IMAGE slot, and the account of the unmount (R59 to
R61). -/
structure Unmount where
  saveNeeded : Bool
  session : Nat
  nextStripe : Nat
  blockCount : Nat
  save : Option SaveOutcome
  written : Option Bool
  flush : Option FaultReport
  motionFault : Bool
  deriving DecidableEq, Repr

structure Medium where
  state : MediumState
  phase : MediumPhase
  identity : Option Identity
  /-- CART_PRESENT, as last sensed. -/
  present : Bool
  /-- LEADER_SENSE shows a captured leader. -/
  leader : Bool
  /-- WP_TAB as sampled at the seating under way, true in the protect position (R48). -/
  sampledTab : Bool
  /-- The Cartridge Memory Reader is reading the record of a cartridge just seated (R48, R66). -/
  reading : Bool
  after : Option AfterUnthread
  /-- The status the mount's source gives LOAD: OK, REBUILT or REBUILT_SHORT (R56). -/
  source : Code
  unmount : Option Unmount
  /-- The fault report of an UNLOAD's flush phase, kept for its response (R59, R131). -/
  flushFault : Option FaultReport
  write : Option CmWrite
  /-- Cartridge memory writes that wait for the one under way (R50, R52). -/
  waiting : List CmPurpose
  heldZones : List HeldZone
  /-- A RESET DRIVE arrived after the cleaning write had begun (R64). -/
  resetInWrite : Bool
  /-- A MOTOR_STALL or POSITION_LOST has come in the UNLOAD under way before its unmount image was set aside (R59, R61). -/
  unloadFault : Bool
  /-- Tach counts of the cleaning pass under way (R63). -/
  passCounts : Nat
  deriving DecidableEq, Repr

/-! ### The Transport Controller, the Channel Synthesizer and the Tape Channel -/

structure Transport where
  state : TransportState
  tension : Tension
  motion : Motion
  stop : Stop
  /-- The request that begins when the tape reaches rest (R79, R80). -/
  deferred : Option MotionReq
  pos : Pos
  known : Bool
  slips : Nat
  missing : Nat
  /-- A mark has been captured since the previous boundary (R72). -/
  markSeen : Bool
  /-- The motion runs against the recording direction (R70, R71). -/
  against : Bool
  active : Option Plan
  standby : Option Plan
  step : Nat
  pendingStep : Option Nat
  synth : SynthState
  lockedStep : Nat
  /-- Boundaries still to come until the synthesizer has had its segment of the run-up (R78, R85). -/
  runUp : Nat
  /-- The segment that the stream begins with, while its run-up lasts (R78). -/
  startAt : Option SegAddr
  /-- Boundaries handed in the stream that the counter has since been carried back over: they are not handed again (R71). -/
  unhanded : Nat
  relaxTimer : Bool
  dutyS : Nat
  dutyT : Nat
  /-- Changes of the asked tension so far: the model's counter for the reel duties (R68). -/
  tensionChanges : Nat
  /-- Tach counts passed since the last kilosegment event, 0 to 63,999: 64 for each segment of the remainder (R86). -/
  passedTach : Nat
  /-- Kilosegment events that the tape passed has brought and KILOSEGMENT_EVENT has not yet handed to the Head Monitor (R86). -/
  kilosegments : Nat
  deriving DecidableEq, Repr

/-- The Tape Channel: the write gate, what it writes in the segment now passing (stripe header; the payload is the slot's
or the image's), copies whose checks are due, and an underrun in the segment now passing (R76, R102, R125). -/
structure TapeChannel where
  gate : Bool
  writing : Option StripeHeader
  /-- The write elements carry erase current (R12). -/
  erase : Bool
  flights : List Flight
  underrun : Bool
  /-- Bursts of 512 payload bytes that the tape has passed in the segment now passing (R102). -/
  served : Nat
  /-- Those of them that were not served in time, by number: written as zeros (R102). -/
  lost : List Nat
  deriving DecidableEq, Repr

/-! ### The Stripe Queue -/

structure Queue where
  slots : List Slot
  fillTimer : Bool
  /-- The burst under way, and the requests waiting (R102). -/
  burst : Option Requester
  waiting : List Requester
  deriving DecidableEq, Repr

/-! ### The Compression Engine and the Data Port -/

/-- Phases of the block record: COMPRESSING or PLACING (R106). -/
inductive BlockPhase where
  | compressing | placing
  deriving DecidableEq, Repr

/-- The engine's block record (R106): `tokens` is the token stream in BUILD, `literals` the pending literals, `raw` set once
the block is decided RAW, `rest` the header and stored bytes still to place, `headerPlaced` whether the header has been. -/
structure BlockRecord where
  number : Nat
  rawLen : Nat
  isMarker : Bool
  tryCompress : Bool
  phase : BlockPhase
  next : Nat
  literals : List Byte
  tokens : List Byte
  raw : Bool
  crc : Word32
  storedLen : Nat
  rest : List Byte
  headerPlaced : Bool
  deriving DecidableEq, Repr

/-- The walk's phases (R113). -/
inductive WalkPhase where
  | skipPiece | header | skipBlock | expand | copy | hold
  deriving DecidableEq, Repr

/-- A block handed to the port whose successor's header has not been located: where that header is (absent when the
successor is block count), whether the block is a marker, and whether it has been sent (R145). -/
structure Handed where
  successor : Option (Nat × Bool)
  isMarker : Bool
  sent : Bool
  deriving DecidableEq, Repr

/-- The walk record (R113): the header of the block in hand and its stored bytes taken so far; output and its CRC are those
of `outflow`. -/
structure Walk where
  expected : Nat
  phase : WalkPhase
  current : Option BlockHeader
  taken : List Byte
  /-- A checked block that an ABORT found before its length word, kept for the read that goes on from the read-ahead, as it was
  handed over (R115, R145). -/
  kept : Option Handed
  deriving DecidableEq, Repr

structure Engine where
  block : Option BlockRecord
  /-- The INTAKE ring, oldest byte first (R96). -/
  ring : List Byte
  /-- A token stream is kept in `block`; BUILD holds no other byte. OUTFLOW's output of the block in hand (R114). -/
  outflow : List Byte
  walk : Option Walk
  meter : Meter
  report : Meter
  deriving DecidableEq, Repr

/-- The Data Port's phases (R104). -/
inductive PortPhase where
  | idle | length | data | sendLength | sendData
  deriving DecidableEq, Repr

structure Port where
  phase : PortPhase
  lengthWord : Option Nat
  remaining : Nat
  /-- Bytes of the block arriving that have not passed yet: the last word may carry fewer than four (R104). -/
  bytesLeft : Nat
  taken : Nat
  /-- The last word driven out on DP_DATA: the model's record of the pins. -/
  wordOut : Word32
  deriving DecidableEq, Repr

/-! ### The Write Controller -/

structure Writer where
  state : WriteState
  session : Option Nat
  /-- Wrap of the open extent (R118, R22). -/
  openWrap : Option Nat
  firstStripe : Option Nat
  highestStripe : Option Nat
  /-- A stripe of the session has been opened in the queue (R90). -/
  opened : Bool
  lastCopy : Option SegAddr
  /-- The Current Block location as the write request was taken, by which the session's cut is made (R25, R26). -/
  start : Option Location
  requested : Nat
  accepted : Nat
  fault : Option SessionFault
  deferred : Option FaultReport
  /-- EARLY_WARNING has been raised in this session (R136). -/
  warned : Bool
  /-- The refusal that ends the request once every block admitted before it is accepted (R105, R122). -/
  refusal : Option Code
  /-- The session-opening cartridge memory write is under way (R121). -/
  opening : Bool
  deriving DecidableEq, Repr

/-! ### The Read Controller -/

/-- Why a READ BLOCKS is ending (R149 to R151): the status, with the failed stripe's account or the faulted block. -/
structure ReadEnding where
  code : Code
  failed : Option (Nat × Nat × Nat)
  faulted : Option Nat
  /-- The read stream has met a motion fault, which leaves no read-ahead to keep (R151). -/
  motion : Bool
  deriving DecidableEq, Repr

structure Reader where
  state : ReadState
  request : Option Op
  delivered : Nat
  sent : Nat
  corrected : Nat
  nextDrain : Option Nat
  extent : Option Nat
  nextPlan : Option SegAddr
  highestMet : Option Nat
  searches : List Search
  halted : Bool
  /-- Planning waits to go on to an extent that does not follow on (R142). -/
  jump : Bool
  /-- The last extent's last segment has been planned (R142). -/
  atEnd : Bool
  met : List Met
  /-- The next block to deliver (R145). -/
  nextDeliver : Nat
  handed : List Handed
  ending : Option ReadEnding
  /-- The restart segment of a retry, until it has been read again (R147). -/
  retrying : Option SegAddr
  /-- ZONE_OVERLAP has been raised in this request (R31). -/
  overlapRaised : Bool
  deriving DecidableEq, Repr

/-! ### The Catalog Engine -/

/-- A fine search (R36, R37). -/
inductive FinePurpose where
  | locate
  | retire (b : Nat)
  | space (old : Nat)
  | eodCut
  deriving DecidableEq, Repr

structure Fine where
  purpose : FinePurpose
  target : Nat
  wrap : Nat
  first : Int
  last : Int
  next : SegAddr
  passStart : Int
  backups : Nat
  /-- A header has been read in this pass. -/
  seenFirst : Bool
  firstEmpty : Option Int
  /-- The highest stripe whose header has been read in this pass. -/
  lastSeen : Option Nat
  /-- The HEADER_ONLY stripe holding the target, and the segments left of its copy search. -/
  found : Option (Location × Nat)
  retries : Nat
  deriving DecidableEq, Repr

/-- A stripe that a sequential reading misses: R146 and R147's counting for a rebuild or a marker scan. -/
structure Miss where
  stripe : Nat
  session : Nat
  opening : SegAddr
  /-- The first copy met HEADER_ONLY (R146). -/
  firstCopy : Option SegAddr
  left : Nat
  retries : Nat
  armed : Bool
  /-- The restart segment of a retry, until it has been read again (R147). -/
  reread : Option SegAddr
  /-- The stripe was decoded and its slot reclaimed (R99): it waits to be read again, and counts no segment. -/
  reclaimed : Bool
  deriving DecidableEq, Repr

/-- An accepted stripe of the rebuild scan's own record (R44): its first header's block, its block starts, whether that
header is at offset 0, and the accepted copy's segment. -/
structure Accepted where
  stripe : Nat
  firstHeader : Nat
  starts : Nat
  atZero : Bool
  addr : SegAddr
  deriving DecidableEq, Repr

/-- A segment as the rebuild scan saw it (R20, R44): a copy (stripe, copy number) of a session, or when absent a segment without
a stripe header. -/
structure Seen where
  addr : SegAddr
  copy : Option (Nat × Nat)
  session : Nat
  deriving DecidableEq, Repr

/-- A rebuild scan (R41 to R44). -/
structure Rebuild where
  next : SegAddr
  /-- Last accepted stripe L and its session T. -/
  last : Option (Nat × Nat)
  /-- The block whose continuation the next stripe should hold: its header and the stored bytes still to come. -/
  carry : Option (BlockHeader × Nat)
  lastAddr : Option SegAddr
  emptyRun : Nat
  miss : Option Miss
  /-- The searches of stripes further on, which wait for that of `miss` and the stripes held before them (R99), in the order opened. -/
  later : List Miss
  /-- Those of them that a stripe now held has closed: it is offered in that stripe's place (R41). -/
  closed : List Miss
  /-- The stripe and session that L and T will be when every search open has found its stripe. -/
  reach : Option (Nat × Nat)
  readOn : Bool
  accepted : List Accepted
  /-- The segments seen, each once, oldest first. -/
  seen : List Seen
  /-- Set when the scan has ended: REBUILT or REBUILT_SHORT. -/
  outcome : Option Code
  deriving DecidableEq, Repr

/-- A marker scan of SPACE MARKERS (R153). -/
structure MarkerScan where
  forward : Bool
  count : Nat
  /-- Markers still to find. -/
  left : Nat
  /-- Current Block where the SPACE began. -/
  start : Nat
  extent : Nat
  /-- The stripe wanted next, the last one to examine in this extent, and the segment next to plan. -/
  want : Nat
  last : Nat
  next : SegAddr
  miss : Option Miss
  /-- The searches of stripes further on, in the order they were opened (R146). -/
  later : List Miss
  /-- Stripes further on that read HEADER_ONLY with a marker count of 0: passed without draining (R153). -/
  bare : List Nat
  /-- The first segment without a header since the stripe before `want` was examined (R37, R153). -/
  blank : Option SegAddr
  /-- BACKWARD: the markers below the start found in this extent, in block order, with their headers' locations. -/
  found : List (Nat × Location)
  /-- FORWARD: Current Block to be, once its header has been met. -/
  goal : Option Nat
  deriving DecidableEq, Repr

/-- What the Catalog Engine is doing on the tape. -/
inductive CatWork where
  | idle
  /-- A load from the catalog band; `zonesOnly` in a rebuild (R40, R44). -/
  | load (next : Int) (zonesOnly : Bool)
  /-- A save: the copy to write next, and whether one has passed its check or copy 3 has failed (R39). -/
  | save (copy : Nat) (done : Option Bool)
  | rebuild (r : Rebuild)
  | fine (f : Fine)
  | markers (m : MarkerScan)
  deriving DecidableEq, Repr

structure Catalog where
  blockCount : Nat
  markerCount : Nat
  current : Nat
  positionValid : Bool
  location : Option Location
  append : AppendPoint
  session : Nat
  dirty : Bool
  eod : Eod
  extents : List Extent
  zones : List Zone
  reservations : List Reservation
  /-- The Write Controller's reports of the session's segments, oldest first (R124). -/
  reports : List SegReport
  /-- Confirmed stripes whose predecessors are not all confirmed, with their accounts (R21). -/
  confirmed : List (Nat × Account)
  /-- The stripe that joins the confirmed prefix next (R21). -/
  nextJoin : Nat
  work : CatWork
  /-- The rebuild kept while the EOD cut and the zone read follow its scan (R44). -/
  rebuilt : Option Rebuild
  deriving DecidableEq, Repr

/-! ### The Speed Governor -/

structure Governor where
  step : Nat
  down : Nat
  quick : Bool
  last : Window
  /-- A governed stream exists (R162). -/
  governed : Bool
  deriving DecidableEq, Repr

/-! ### The Head Monitor -/

/-- The scanner while a scan runs (R176). -/
structure Scan where
  /-- The post-clean scan of a mount, or a SCAN HEAD (R178). -/
  postClean : Bool
  a : Nat
  b : Nat
  element : Nat
  done : Nat
  pass : Nat
  /-- Microseconds of the pass used by window pairs begun in it. -/
  elapsed : Nat
  /-- A window pair is under way. -/
  measuring : Bool
  /-- The signal window's level, once it has ended and the noise window runs. -/
  signal : Option Nat
  /-- HEAD_CONDITION has been raised by a status change of this scan (R178). -/
  raised : Bool
  /-- The scan is ending: the status of its SCAN HEAD once the tape is at rest. -/
  ending : Option Code
  deriving DecidableEq, Repr

structure HeadMonitor where
  table : List Element
  scan : Option Scan
  ci : Nat
  pc : Nat
  /-- The spread set, rising, no element twice (R179). -/
  spread : List Nat
  decayRun : Nat
  meter : Nat
  level : CleaningLevel
  last : Attribution
  postClean : Bool
  worn : Bool
  mountSeq : Nat
  mount : MountRecord
  records : List MediumRecord
  deriving DecidableEq, Repr

/-! ### The whole part -/

structure State where
  link : Link
  att : Attention
  settings : Settings
  medium : Medium
  transport : Transport
  tape : TapeChannel
  queue : Queue
  engine : Engine
  port : Port
  writer : Writer
  reader : Reader
  catalog : Catalog
  gov : Governor
  head : HeadMonitor
  /-- Commands waiting, first in, first out: the model's own field. -/
  pending : List Instr
  deriving DecidableEq, Repr

/-! ### Power-on values -/

/-- The configuration defaults (section 11.8). -/
def Settings.default : Settings :=
  { restartThreshold := 32, rewriteThreshold := 1, retryLimit := 4, minStep := 0, maxStep := 5, relaxTimeout := 30,
    fillTimeout := 20, earlyDistance := 1000, cleanThreshold := 600, cleanInterval := 20000, weakThreshold := 40,
    deadThreshold := 12, scanA := 15, scanB := 15, scanStart := 0, follow := false, defaultCompression := true,
    zoneStrict := false, mask := 0 }

/-- A FREE slot: every other field absent or zero (R88). -/
def Slot.empty : Slot :=
  { state := .free, stripe := none, copies := 0, planned := false, failedTracks := 0, payload := [], account := none,
    header := none }

/-- The default zone of entries 1 to 7 (R29). -/
def Zone.unused : Zone := { enabled := false, base := 0, k := 4, access := .readWrite, compression := true }

/-- The default Zone Table (R29). -/
def Zone.defaults : List Zone :=
  { enabled := true, base := 0, k := 4, access := .readOnly, compression := true } :: List.replicate 7 Zone.unused

/-- An UNSCANNED element (R170). -/
def Element.unscanned : Element :=
  { amplitude := 0, noise := 0, margin := 0, status := .unscanned, failsMount := 0, failsLife := 0 }

def Meter.zero : Meter := { rawAccepted := 0, placed := 0, taken := 0 }

/-- The Read Session record at rest (R155). -/
def Reader.idle : Reader :=
  { state := .idle, request := none, delivered := 0, sent := 0, corrected := 0, nextDrain := none, extent := none,
    nextPlan := none, highestMet := none, searches := [], halted := false, jump := false, atEnd := false, met := [],
    nextDeliver := 0, handed := [], ending := none, retrying := none, overlapRaised := false }

/-- The Data Port at rest (R117). -/
def Port.idle : Port :=
  { phase := .idle, lengthWord := none, remaining := 0, bytesLeft := 0, taken := 0, wordOut := 0 }

/-- The Write Session record with no session and no request (R135, R138), a Deferred Error record apart. -/
def Writer.idle : Writer :=
  { state := .idle, session := none, openWrap := none, firstStripe := none, highestStripe := none, opened := false,
    lastCopy := none, start := none, requested := 0, accepted := 0, fault := none, deferred := none, warned := false, refusal := none,
    opening := false }

/-- The catalog with no cartridge mounted (R45, middle column). -/
def Catalog.unmounted : Catalog :=
  { blockCount := 0, markerCount := 0, current := 0, positionValid := false, location := none,
    append := { wrap := 0, seg := 16, stripe := 0 }, session := 0, dirty := false,
    eod := { session := 0, stripe := 0, block := 0 }, extents := [], zones := Zone.defaults, reservations := [],
    reports := [], confirmed := [], nextJoin := 0, work := .idle, rebuilt := none }

/-- The part right after power-on with the slot empty: every field at the value R45, R66, R87, R103, R117, R138, R155,
R169, R189, R190, R196 and R198 state for power-on reset. -/
def State.reset : State :=
  { link := { queue := [], refused := false, outstanding := none, shiftedOut := [] }
    att := { pending := 0, seen := 0 }
    settings := Settings.default
    medium :=
      { state := .empty, phase := .idle, identity := none, present := false, leader := false, sampledTab := false,
        reading := false, after := none, source := .ok, unmount := none, flushFault := none, write := none, waiting := [], heldZones := [],
        resetInWrite := false, unloadFault := false, passCounts := 0 }
    transport :=
      { state := .parked, tension := .none, motion := .idle, stop := .none, deferred := none,
        pos := { wrap := 0, seg := 0, tach := 0 }, known := false, slips := 0, missing := 0, markSeen := false,
        against := false, active := none, standby := none, step := 0, pendingStep := none, synth := .off, lockedStep := 0, runUp := 0, startAt := none, unhanded := 0,
        relaxTimer := false, dutyS := 0, dutyT := 0, tensionChanges := 0, passedTach := 0, kilosegments := 0 }
    tape := { gate := false, writing := none, erase := false, flights := [], underrun := false, served := 0, lost := [] }
    queue := { slots := List.replicate Config.slotCount Slot.empty, fillTimer := false, burst := none, waiting := [] }
    engine :=
      { block := none, ring := [], outflow := [], walk := none, meter := Meter.zero, report := Meter.zero }
    port := Port.idle
    writer := Writer.idle
    reader := Reader.idle
    catalog := Catalog.unmounted
    gov := { step := 0, down := 0, quick := false, last := { s := 0, p := 0, d := 0, target := 0 }, governed := false }
    head :=
      { table := List.replicate 18 Element.unscanned, scan := none, ci := 0, pc := 0, spread := [], decayRun := 0,
        meter := 0, level := .none, last := .clean, postClean := false, worn := false, mountSeq := 0,
        mount := { isOpen := false, serial := [], index := 0, counted := 0, failed := 0 }, records := [] }
    pending := [] }

end Sys2Proof.Machine
end

