-- ==== Sys2Proof/Machine/Flags.lean ====
section
/-! DEFINITION. The marks and levels computed from others: attention marks and the ATTENTION line (R196, R197), an element's
status (R171), the DEAD count (R172), the Cleaning Call level (R185), a segment's outcome (R7), the Data Port's ready and
valid lines (R97), and the clamps of the configuration values (R198). -/

namespace Sys2Proof.Machine

/-! ### Attention -/

/-- The bit of a kind in a set of kinds (section 11.7). -/
def Kind.bit : Kind → Byte
  | .mediumChange => 1 | .deferredError => 2 | .cleaningCall => 4 | .headCondition => 8
  | .mediumSuspect => 16 | .zoneOverlap => 32 | .scanDone => 64 | .earlyWarning => 128

/-- A raise sets pending and clears seen (R196). -/
def Attention.raise (a : Attention) (k : Kind) : Attention :=
  { pending := a.pending ||| k.bit, seen := a.seen &&& ~~~k.bit }

/-- STATUS sets seen on every pending kind (R195, R196). -/
def Attention.see (a : Attention) : Attention := { a with seen := a.seen ||| a.pending }

/-- The kinds of a set that are both pending and seen (R196). -/
def Attention.clearable (a : Attention) (kinds : Byte) : Byte := kinds &&& a.pending &&& a.seen

/-- ACK ATTENTION clears pending and seen of each kind of the set that is both (R196). -/
def Attention.acknowledge (a : Attention) (kinds : Byte) : Attention :=
  { pending := a.pending &&& ~~~(a.clearable kinds), seen := a.seen &&& ~~~(a.clearable kinds) }

/-- The ATTENTION line: at least one kind pending and unmasked (R197). -/
def attentionLine (a : Attention) (mask : Byte) : Bool := a.pending &&& ~~~mask != 0

/-! ### Elements -/

/-- The status a margin gives against the thresholds (R171). -/
def statusOfMargin (v : Settings) (margin : Nat) : ElementStatus :=
  if v.weakThreshold ≤ margin then .good else if v.deadThreshold ≤ margin then .weak else .dead

/-- The evaluation of a scanned entry; an UNSCANNED one is not evaluated (R171). -/
def Element.evaluate (v : Settings) (e : Element) : Element :=
  if e.status = .unscanned then e else { e with status := statusOfMargin v e.margin }

/-- An entry with a new measurement: margin is amplitude minus noise clamped at 0 (R170), the status evaluated (R171). -/
def Element.measured (v : Settings) (amplitude noise : Nat) (e : Element) : Element :=
  { e with amplitude := amplitude, noise := noise, margin := amplitude - noise,
           status := statusOfMargin v (amplitude - noise) }

/-- The FOLLOW update (R174): amplitude floor((7 × old + sample) / 8), noise kept, UNSCANNED entries left alone. -/
def Element.follow (v : Settings) (sample : Nat) (e : Element) : Element :=
  if e.status = .unscanned then e else e.measured v ((7 * e.amplitude + sample) / 8) e.noise

def Element.isDead (e : Element) : Bool := e.status == .dead

/-- The DEAD count (R172). -/
def deadCount (table : List Element) : Nat := (table.filter Element.isDead).length

/-- Some entry is DEAD now that was not before (R171). -/
def newlyDead (old new : List Element) : Bool :=
  (old.zip new).any fun p => !p.1.isDead && p.2.isDead

/-! ### Cleaning Call -/

/-- The level from CI and the meter (R185). -/
def cleaningLevel (v : Settings) (ci meter : Nat) : CleaningLevel :=
  if v.cleanThreshold ≤ ci then .required
  else if v.cleanThreshold ≤ ci + 150 ∨ v.cleanInterval ≤ meter then .advised
  else .none

def CleaningLevel.rank : CleaningLevel → Nat
  | .none => 0 | .advised => 1 | .required => 2

/-! ### Segment outcomes -/

/-- The outcome from the count of FAIL tracks (R7). -/
def outcomeOfFails (f : Nat) : SegOutcome :=
  if f = 0 then .clean else if f ≤ 2 then .corrected else if f ≤ 17 then .headerOnly else .empty

def SegOutcome.decodable : SegOutcome → Bool
  | .clean => true | .corrected => true | .headerOnly => false | .empty => false

/-! ### Data Port lines -/

/-- Both stage slots of a write session are held (R96, R97). -/
def stagesHeld (slots : List Slot) : Bool :=
  slots.any (fun s => s.state == .intake) && slots.any (fun s => s.state == .build)

/-- The bytes the next data word brings: four, or fewer in a block's last word (R104). -/
def wordBytes (left : Nat) : Nat := min 4 left

/-- A write request is outstanding and has blocks still to take (R97, R105). -/
def takingBlocks (s : State) : Bool :=
  (s.writer.state == .accepting) && decide (0 < s.writer.requested) && (s.writer.refusal == none)

/-- DP_READY for a length word (R97): phase LENGTH, the register empty, length words still to take (R105). -/
def readyForLength (s : State) : Bool :=
  takingBlocks s && (s.port.phase == .length) && (s.port.lengthWord == none)
    && decide (s.port.taken < s.writer.requested)

/-- DP_READY for a data word (R97): phase DATA, both stages held, room in the INTAKE ring. -/
def readyForData (s : State) : Bool :=
  takingBlocks s && (s.port.phase == .data) && stagesHeld s.queue.slots
    && decide (s.engine.ring.length + wordBytes s.port.bytesLeft ≤ Config.payloadSize)

/-- The side that drives DP_DATA and DP_VALID by the level of DP_DIR: the part in the out direction, the bridge in the in direction
(R104). -/
def partDrives (dir : PortDirection) : Bool :=
  match dir with
  | .outward => true
  | .inward => false

/-- The direction of the outstanding request (R104). -/
def requestDirection (s : State) : Option PortDirection :=
  match s.link.outstanding.map Outstanding.op with
  | some (.writeBlocks _) => some .inward
  | some (.writeMarkers _) => some .inward
  | some (.readBlocks _) => some .outward
  | _ => none

/-- While DP_DIR shows the direction opposite to the outstanding request, no word passes (R104). The level of DP_DIR, an input pin, is
that of the command (assumption 9): in with a word that the bridge offers, out with one that it asks for. -/
def dirAgrees (dir : PortDirection) (s : State) : Bool := requestDirection s == some dir

/-- DP_READY as the part asks for words of the in direction (R97). -/
def dpReady (s : State) : Bool := readyForLength s || readyForData s

/-- DP_VALID as the part drives it while DP_DIR has it drive it (R104): a checked block not yet sent (R97). -/
def dpValid (dir : PortDirection) (s : State) : Bool :=
  partDrives dir && ((s.port.phase == .sendLength) || (s.port.phase == .sendData))

/-! ### Configuration -/

/-- The value identifiers of CONFIGURE, 0x01 to 0x13 (section 11.9); each sets one value, clamped to its range. -/
def Settings.put (v : Settings) (ident value : Nat) : Option Settings :=
  match ident with
  | 0x01 => some { v with restartThreshold := clamp 8 96 value }
  | 0x02 => some { v with rewriteThreshold := clamp 1 2 value }
  | 0x03 => some { v with retryLimit := clamp 0 7 value }
  | 0x04 => some { v with minStep := clamp 0 5 value }
  | 0x05 => some { v with maxStep := clamp 0 5 value }
  | 0x06 => some { v with relaxTimeout := clamp 0 255 value }
  | 0x07 => some { v with fillTimeout := clamp 1 255 value }
  | 0x08 => some { v with earlyDistance := clamp 100 4000 value }
  | 0x09 => some { v with cleanThreshold := clamp 200 900 value }
  | 0x0A => some { v with cleanInterval := clamp 1000 60000 value }
  | 0x0B => some { v with weakThreshold := clamp 0 255 value }
  | 0x0C => some { v with deadThreshold := clamp 0 255 value }
  | 0x0D => some { v with scanA := clamp 0 255 value }
  | 0x0E => some { v with scanB := clamp 0 255 value }
  | 0x0F => some { v with scanStart := clamp 0 17 value }
  | 0x10 => some { v with follow := decide (value ≠ 0) }
  | 0x11 => some { v with defaultCompression := decide (value ≠ 0) }
  | 0x12 => some { v with zoneStrict := decide (value ≠ 0) }
  | 0x13 => some { v with mask := BitVec.ofNat 8 value }
  | _ => none

/-- The pairs put in turn; nothing for an unknown identifier (R198). -/
def Settings.putAll (v : Settings) : List (Byte × Word32) → Option Settings
  | [] => some v
  | p :: ps =>
    match v.put p.1.toNat p.2.toNat with
    | some w => w.putAll ps
    | none => none

/-- The two pairs checked against each other (R198, R158, R171). -/
def Settings.reconcile (v : Settings) : Settings :=
  { v with minStep := min v.minStep v.maxStep, deadThreshold := min v.deadThreshold v.weakThreshold }

/-- The same identifier stands twice (R198). -/
def repeatsIdentifier : List (Byte × Word32) → Bool
  | [] => false
  | p :: ps => ps.any (fun q => q.1 == p.1) || repeatsIdentifier ps

/-- The table of values a CONFIGURE leaves, or nothing when it is BAD_REQUEST: 1 to 19 pairs, known identifiers, none
twice (R198). -/
def Settings.configured (v : Settings) (pairs : List (Byte × Word32)) : Option Settings :=
  if pairs = [] ∨ 19 < pairs.length ∨ repeatsIdentifier pairs = true then none
  else (v.putAll pairs).map Settings.reconcile

end Sys2Proof.Machine
end

