-- ==== Sys2Proof/Machine/Geometry.lean ====
section
/-! DEFINITION. Wraps, segments and recording order (R1), the Position Counter's arithmetic (R70, R71) and the ready point
of a stream (R78). -/

namespace Sys2Proof.Machine

/-- Even wraps are recorded forward, odd wraps in reverse (R1). -/
def evenWrap (w : Nat) : Bool := w % 2 == 0

/-- The change of segment number along the recording direction of a wrap (R1). -/
def recStep (w : Nat) : Int := if evenWrap w then 1 else -1

/-- A wrap's first segment in recording order (R1). -/
def firstSeg (w : Nat) : Int := if evenWrap w then 0 else 63999

/-- A wrap's last segment in recording order (R1). -/
def lastSeg (w : Nat) : Int := if evenWrap w then 63999 else 0

/-- The segments 0 to 63,999, as against the end zones (R70). -/
def inDataArea (seg : Int) : Bool := decide (0 ≤ seg) && decide (seg ≤ 63999)

/-- The data ordinal (R1), continued below 0 over the catalog band of wrap 0, and to 4,095,984 at wrap 63, segment -1, the
end of the data area (R137). -/
def ordinal (a : SegAddr) : Int :=
  if evenWrap a.wrap then 63984 + ((a.wrap : Int) - 1) * 64000 + a.seg
  else 63984 + ((a.wrap : Int) - 1) * 64000 + (63999 - a.seg)

/-- The number of segments of the data area (R1). -/
def dataCapacity : Int := 4095984

/-- The next segment in recording order: the first of the next wrap after a wrap's last (R1); after wrap 63, segment 0, the
end of the data area (R137). -/
def SegAddr.next (a : SegAddr) : SegAddr :=
  if a.seg = lastSeg a.wrap ∧ a.wrap < 63 then { wrap := a.wrap + 1, seg := firstSeg (a.wrap + 1) }
  else { a with seg := a.seg + recStep a.wrap }

/-- The segment before in recording order (R1). -/
def SegAddr.prev (a : SegAddr) : SegAddr :=
  if a.seg = firstSeg a.wrap ∧ 0 < a.wrap then { wrap := a.wrap - 1, seg := lastSeg (a.wrap - 1) }
  else { a with seg := a.seg - recStep a.wrap }

/-- `n` segments upstream in recording order, across turnarounds (R1). -/
def SegAddr.back : Nat → SegAddr → SegAddr
  | 0, a => a
  | n + 1, a => SegAddr.back n a.prev

/-- Segment `a` lies upstream of segment `b` in recording order. -/
def SegAddr.before (a b : SegAddr) : Bool := decide (ordinal a < ordinal b)

/-- `n` segments upstream on the same wrap (R1). -/
def upstreamBy (w : Nat) (n : Int) (seg : Int) : Int := seg - n * recStep w

/-- Segment `a` lies upstream of segment `b` of the same wrap (R1). -/
def isUpstream (w : Nat) (a b : Int) : Bool := decide (0 < (b - a) * recStep w)

/-- A segment moved downstream to `limit` when it lies upstream of it. -/
def clampUpstream (w : Nat) (limit seg : Int) : Int := if isUpstream w seg limit then limit else seg

/-- The remaining distance of an append point (R1, R136). -/
def remainingDistance (a : AppendPoint) : Nat := (dataCapacity - ordinal { wrap := a.wrap, seg := a.seg }).toNat

/-- The append point's segment lies beyond the last data segment (R137). -/
def atEndOfArea (a : SegAddr) : Bool := decide (dataCapacity ≤ ordinal a)

/-- The ready point of a stream from segment t: 2 segments upstream of its start, at tach 0 (R78). -/
def readyPoint (a : SegAddr) : Pos := { wrap := a.wrap, seg := upstreamBy a.wrap 2 a.seg, tach := 0 }

/-- The counter's numbering runs from segment -32 to segment 64,031 (R70). DESIGN CHOICE (log 34): the rule numbers nothing
beyond, and a count that would go on there leaves the segment at the end of the zone. -/
def clampZone (seg : Int) : Int := if seg < -32 then -32 else if 64031 < seg then 64031 else seg

/-- The segment moves one step in the wrap's direction and the tach count becomes 0 (R70). -/
def Pos.nextSegment (p : Pos) : Pos := { p with seg := clampZone (p.seg + recStep p.wrap), tach := 0 }

/-- The segment moves one step upstream and the tach count becomes 63 (R70). -/
def Pos.prevSegment (p : Pos) : Pos := { p with seg := clampZone (p.seg - recStep p.wrap), tach := 63 }

/-- One head step to the wrap after: the recording direction reverses and the tach count becomes 63 minus its old value
(R70). -/
def Pos.stepWrap (p : Pos) : Pos := { p with wrap := p.wrap + 1, tach := 63 - p.tach }

/-- One head step toward another wrap, of either number order (R70, R79). -/
def Pos.stepToward (p : Pos) (wrap : Nat) : Pos :=
  if p.wrap = wrap then p
  else { p with wrap := if p.wrap < wrap then p.wrap + 1 else p.wrap - 1, tach := 63 - p.tach }

/-- The head steps from its wrap to another, one by one, each making the tach count 63 minus its old value (R70). -/
def Pos.headTo (p : Pos) (wrap : Nat) : Pos :=
  { p with wrap := wrap, tach := if evenWrap p.wrap = evenWrap wrap then p.tach else 63 - p.tach }

/-- Tach counts from the wrap's zero point along the recording direction (R71). -/
def Pos.along (p : Pos) : Int := (if evenWrap p.wrap then p.seg else 63999 - p.seg) * 64 + p.tach

/-- The counter's segment. -/
def Pos.addr (p : Pos) : SegAddr := { wrap := p.wrap, seg := p.seg }

end Sys2Proof.Machine
end

