-- ==== Sys2Proof/Machine/Bytes.lean ====
section
/-! DEFINITION. Bytes of fields, most significant byte first, the CRC-32 of tracks, blocks and records, and the
256-element field of parity track Q (R6, layout tables). -/

namespace Sys2Proof.Machine

/-- The low `n` bytes of a number, most significant byte first (layout tables). -/
def beBytes : Nat → Nat → List Byte
  | 0, _ => []
  | n + 1, v => beBytes n (v / 256) ++ [BitVec.ofNat 8 v]

/-- The number that bytes give, most significant byte first. -/
def beNat (bs : List Byte) : Nat := bs.foldl (fun acc b => acc * 256 + b.toNat) 0

/-- The number in the `n` bytes from offset `i`. -/
def beField (bs : List Byte) (i n : Nat) : Nat := beNat ((bs.drop i).take n)

/-- One bit of the CRC-32 register: the generator 0x04C11DB7 with the register held bit-reversed, so that each byte is
taken least significant bit first (R6; the form of the register is PRESUMED, assumption 5). -/
def crcBit (c : Nat) : Nat := if c % 2 = 1 then (c / 2) ^^^ 0xEDB88320 else c / 2

def crcBits : Nat → Nat → Nat
  | 0, c => c
  | n + 1, c => crcBits n (crcBit c)

/-- The register after one more byte. -/
def crcByte (c : Word32) (b : Byte) : Word32 := BitVec.ofNat 32 (crcBits 8 (c.toNat ^^^ b.toNat))

/-- The register's start (R6). -/
def crcStart : Word32 := 0xFFFFFFFF#32

/-- The register after bytes. -/
def crcRun (c : Word32) (bs : List Byte) : Word32 := bs.foldl crcByte c

/-- The stored CRC-32 of a register: inverted (R6). -/
def crcFinish (c : Word32) : Word32 := ~~~c

/-- CRC-32 of bytes (R6). -/
def crc32 (bs : List Byte) : Word32 := crcFinish (crcRun crcStart bs)

/-- Multiplication by 2 in the field generated by 0x11D (R6). -/
def gfDouble (a : Nat) : Nat := if a < 128 then 2 * a else (2 * a) ^^^ 0x11D

/-- Product in the field, by the bits of the second factor, low bit first: `n` bits are taken. -/
def gfMulBits : Nat → Nat → Nat → Nat
  | 0, _, _ => 0
  | n + 1, a, b => (if b % 2 = 1 then a else 0) ^^^ gfMulBits n (gfDouble a) (b / 2)

def gfMul (a b : Nat) : Nat := gfMulBits 8 a b

/-- 2 raised to the power t in the field. -/
def gfPow2 : Nat → Nat
  | 0 => 1
  | t + 1 => gfDouble (gfPow2 t)

/-- a to the power 2^n. -/
def gfSquares : Nat → Nat → Nat
  | 0, a => a
  | n + 1, a => gfSquares n (gfMul a a)

/-- The inverse a^254 = a^2 · a^4 · … · a^128. -/
def gfInv (a : Nat) : Nat :=
  (List.range 7).foldl (fun acc i => gfMul acc (gfSquares (i + 1) a)) 1

end Sys2Proof.Machine
end

