-- ==== Sys2Proof/Machine/Operands.lean ====
section
/-! DEFINITION. Every format the part reads or writes: request frames and their parameters (section 11.9), the link byte and
response frames, the cartridge memory record (R16), stripe headers (R8), block headers (R14) and the catalog image (R38). -/

namespace Sys2Proof.Machine

/-! ### Status codes -/

/-- The value of a status code in a status byte (R199). -/
def Code.value : Code → Nat
  | .ok => 0x00 | .rebuilt => 0x01 | .rebuiltShort => 0x02 | .earlyWarning => 0x03 | .markerMet => 0x04
  | .endOfData => 0x05 | .beginningOfData => 0x06
  | .busy => 0x10 | .badRequest => 0x11 | .notReady => 0x12 | .aborted => 0x13 | .abortRefused => 0x14
  | .nothingToAbort => 0x15 | .deferredError => 0x16
  | .writeProtected => 0x20 | .mediumUnreadable => 0x21 | .mediumFault => 0x22 | .cleanerExpired => 0x23
  | .catalogNotSaved => 0x24
  | .zoneProtected => 0x30 | .zoneConflict => 0x31 | .catalogFull => 0x32
  | .badBlockLength => 0x40 | .writeFailed => 0x41 | .readFailed => 0x42 | .streamFault => 0x43 | .endOfMedium => 0x44
  | .headFault => 0x50 | .threadFault => 0x51 | .positionLost => 0x52 | .motorStall => 0x53

/-! ### Enumerated parameters -/

/-- Access of a zone, encoded as in R38. -/
def Access.parse (b : Nat) : Option Access :=
  if b = 1 then some .readWrite else if b = 2 then some .readOnly else if b = 3 then some .writeOnce else none

def Access.value : Access → Nat
  | .readWrite => 1 | .readOnly => 2 | .writeOnce => 3

/-- Compression of a zone, 0x01 ON and 0x02 OFF (R38). -/
def parseCompression (b : Nat) : Option Bool :=
  if b = 1 then some true else if b = 2 then some false else none

/-- A switch byte 0x00 or 0x01. -/
def parseSwitch (b : Nat) : Option Bool :=
  if b = 0 then some false else if b = 1 then some true else none

/-- Last attribution, 0x01 HEAD, 0x02 MEDIUM, 0x03 CLEAN (section 11.9). -/
def Attribution.parse (b : Nat) : Option Attribution :=
  if b = 1 then some .head else if b = 2 then some .medium else if b = 3 then some .clean else none

/-- SPACE's direction, 0x01 FORWARD and 0x02 BACKWARD: true is FORWARD. -/
def parseDirection (b : Nat) : Option Bool :=
  if b = 1 then some true else if b = 2 then some false else none

/-- LOCATE's target; the block is disregarded for end of data and beginning. -/
def LocateTarget.parse (b : Nat) (block : Nat) : Option LocateTarget :=
  if b = 1 then some (.block block) else if b = 2 then some .endOfData else if b = 3 then some .beginning else none

/-! ### Request frames -/

/-- What the bytes of a transaction ask: no request (R190), a frame answered BAD_REQUEST with its tag (R191), or a request,
as the command its row is. -/
inductive Frame where
  | noRequest
  | bad (tag : Byte)
  | request (c : Instr)
  deriving DecidableEq, Repr

/-- The pairs of CONFIGURE: identifier and four-byte value. -/
def parsePairs : Nat → List Byte → List (Byte × Word32)
  | 0, _ => []
  | n + 1, bs => (bs.getD 0 0, BitVec.ofNat 32 (beField bs 1 4)) :: parsePairs n (bs.drop 5)

/-- One 24-byte record of LOAD MEDIUM RECORDS. -/
def parseWireRecord (bs : List Byte) : WireRecord :=
  { serial := bs.take 12, mounts := BitVec.ofNat 16 (beField bs 12 2), lastMountSeq := BitVec.ofNat 32 (beField bs 14 4),
    lastFailureRate := BitVec.ofNat 16 (beField bs 18 2), charge := BitVec.ofNat 16 (beField bs 20 2),
    suspectCount := bs.getD 22 0, lastAttribution := bs.getD 23 0 }

def parseWireRecords : Nat → List Byte → List WireRecord
  | 0, _ => []
  | n + 1, bs => parseWireRecord bs :: parseWireRecords n (bs.drop 24)

/-- A request's parameters by its code, given that they number `ps.length` bytes: the request, or nothing when the code is
unknown or the length is not one the code takes (R191, section 11.9). -/
def parseRequest (code tag : Byte) (ps : List Byte) : Option Instr :=
  let n := ps.length
  let b (i : Nat) : Byte := ps.getD i 0
  let w2 (i : Nat) : Word16 := BitVec.ofNat 16 (beField ps i 2)
  let w4 (i : Nat) : Word32 := BitVec.ofNat 32 (beField ps i 4)
  match code.toNat with
  | 0x01 => if n = 0 then some (.status tag) else none
  | 0x02 => if n = 1 then some (.ackAttention tag (b 0)) else none
  | 0x03 => if n % 5 = 0 ∧ 1 ≤ n / 5 ∧ n / 5 ≤ 19 then some (.configure tag (parsePairs (n / 5) ps)) else none
  | 0x04 => if n = 0 then some (.readConfiguration tag) else none
  | 0x05 => if n = 5 then some (.queryCatalog tag (b 0) (w4 1)) else none
  | 0x06 => if n = 9 then some (.setZone tag (b 0) (b 1) (w4 2) (b 6) (b 7) (b 8)) else none
  | 0x07 => if n = 0 then some (.readZones tag) else none
  | 0x08 => if n = 0 then some (.readHeadTable tag) else none
  | 0x09 => if n = 0 then some (.readCondition tag) else none
  | 0x0A => if n = 9 then some (.loadCondition tag (w4 0) (w4 4) (b 8)) else none
  | 0x0B => if n = 0 then some (.readMediumRecords tag) else none
  | 0x0C =>
    if 1 ≤ n ∧ n = 1 + 24 * (b 0).toNat ∧ (b 0).toNat ≤ 42 then
      some (.loadMediumRecords tag (parseWireRecords (b 0).toNat (ps.drop 1)))
    else none
  | 0x0D => if n = 0 then some (.abort tag) else none
  | 0x0E => if n = 0 then some (.resetDrive tag) else none
  | 0x20 => if n = 0 then some (.load tag) else none
  | 0x21 => if n = 0 then some (.unload tag) else none
  | 0x22 => if n = 5 then some (.locate tag (b 0) (w4 1)) else none
  | 0x23 => if n = 2 then some (.writeBlocks tag (w2 0)) else none
  | 0x24 => if n = 2 then some (.writeMarkers tag (w2 0)) else none
  | 0x25 => if n = 2 then some (.readBlocks tag (w2 0)) else none
  | 0x26 => if n = 5 then some (.spaceBlocks tag (b 0) (w4 1)) else none
  | 0x27 => if n = 5 then some (.spaceMarkers tag (b 0) (w4 1)) else none
  | 0x28 => if n = 0 then some (.flush tag) else none
  | 0x29 => if n = 4 then some (.retireFrom tag (w4 0)) else none
  | 0x2A => if n = 0 then some (.scanHead tag) else none
  | _ => none

/-- The request frame that the bytes of a transaction carry (R190, R191): a first byte 0x00, or no byte at all, marks no
request; the frame must arrive whole, and bytes after it are disregarded. -/
def parseFrame (bytes : List Byte) : Frame :=
  match bytes with
  | [] => .noRequest
  | code :: more =>
    if code = 0 then .noRequest
    else
      let tag := more.getD 0 0
      let n := beField bytes 2 2
      if bytes.length < 4 ∨ 1024 < n ∨ bytes.length < 4 + n then .bad tag
      else
        match parseRequest code tag ((bytes.drop 4).take n) with
        | some c => .request c
        | none => .bad tag

/-! ### Responses on the link -/

/-- The bytes of a response's payload: none for an empty payload, else the layout the manual leaves open (Config), at most
65,535 bytes (section 11.9). -/
def Payload.bytes (p : Payload) : List Byte :=
  match p with
  | .none => []
  | q => (Config.payloadBytes q).take max16

/-- A response frame (section 11.9): tag, status, payload length, payload. -/
def Response.bytes (r : Response) : List Byte :=
  r.tag :: BitVec.ofNat 8 r.code.value :: (beBytes 2 r.payload.bytes.length ++ r.payload.bytes)

/-! ### Cartridge memory record -/

/-- The 37 bytes of a record as the part writes it (R16): flag bits 2 to 7 zero, a fresh CRC-32. -/
def CmRecord.bytes (r : CmRecord) : List Byte :=
  let flags := (if r.everWritten then 1 else 0) + (if r.valid then 2 else 0)
  let body := (r.serial ++ List.replicate 12 0).take 12 ++ beBytes 1 (match r.kind with | .data => 1 | .cleaning => 2)
    ++ beBytes 1 flags ++ beBytes 1 r.passes ++ beBytes 2 r.loadCount ++ beBytes 4 r.sessionCounter
    ++ beBytes 4 r.eod.session ++ beBytes 4 r.eod.stripe ++ beBytes 4 r.eod.block
  body ++ beBytes 4 (crc32 body).toNat

/-- The test and reading of R16: nothing (kind UNKNOWN) for an unreadable record or another kind byte. -/
def CmRecord.parse (record : Option (List Byte)) : Option CmRecord :=
  match record with
  | none => none
  | some bs =>
    if bs.length ≠ 37 ∨ beField bs 33 4 ≠ (crc32 (bs.take 33)).toNat then none
    else
      let kind : Option CartridgeKind :=
        if beField bs 12 1 = 1 then some .data else if beField bs 12 1 = 2 then some .cleaning else none
      kind.map fun k =>
        { serial := bs.take 12, kind := k, everWritten := beField bs 13 1 % 2 = 1, valid := beField bs 13 1 / 2 % 2 = 1,
          passes := match k with | .data => beField bs 14 1 | .cleaning => min 50 (beField bs 14 1),
          loadCount := beField bs 15 2, sessionCounter := beField bs 17 4,
          eod := { session := beField bs 21 4, stripe := beField bs 25 4, block := beField bs 29 4 } }

/-! ### Stripe headers -/

/-- The three bytes of a segment number; -1 is 0xFFFFFF (R38, R137). -/
def segBytes (seg : Int) : List Byte := if seg < 0 then beBytes 3 0xFFFFFF else beBytes 3 seg.toNat

/-- The 28 bytes of a stripe header (layout table). -/
def StripeHeader.bytes (h : StripeHeader) : List Byte :=
  beBytes 4 h.stripe ++ beBytes 4 h.session ++ beBytes 4 h.firstPiece ++ beBytes 3 (h.firstOffset.getD 0xFFFFFF)
    ++ beBytes 1 h.copy ++ beBytes 3 h.used ++ beBytes 1 h.wrap ++ segBytes h.seg
    ++ beBytes 1 (if h.isData then 1 else 2) ++ beBytes 2 h.starts ++ beBytes 2 h.markers

/-- The header in a track's first 28 bytes; nothing for a stripe kind other than DATA and CATALOG, which reads as EMPTY
(layout table). -/
def StripeHeader.parse (bs : List Byte) : Option StripeHeader :=
  let kind := beField bs 23 1
  if kind = 1 ∨ kind = 2 then
    some
      { stripe := beField bs 0 4, session := beField bs 4 4, firstPiece := beField bs 8 4,
        firstOffset := if beField bs 12 3 = 0xFFFFFF then none else some (beField bs 12 3),
        copy := beField bs 15 1, used := beField bs 16 3, wrap := beField bs 19 1, seg := (beField bs 20 3 : Nat),
        isData := kind = 1, starts := beField bs 24 2, markers := beField bs 26 2 }
  else none

/-- The number of the first block whose header begins in the stripe (R8, R36). -/
def StripeHeader.firstHeader (h : StripeHeader) : Nat :=
  if h.firstOffset = some 0 then h.firstPiece else h.firstPiece + 1

/-! ### Block headers -/

def flagCompressed : Byte := 1
def flagRaw : Byte := 2
def flagMarker : Byte := 4

/-- The header check: the inverted sum modulo 256 of bytes 0 to 10 (R14). -/
def headerCheck (bs : List Byte) : Byte := ~~~((bs.take 11).foldl (· + ·) 0)

/-- The 16 bytes of a block header without its check filled in by `make`. -/
def BlockHeader.bytes (h : BlockHeader) : List Byte :=
  beBytes 4 h.number ++ beBytes 3 h.rawLen ++ [h.flags] ++ beBytes 3 h.storedLen ++ [h.check] ++ beBytes 4 h.crc.toNat

/-- The header the engine makes (R109): its check computed over bytes 0 to 10. -/
def BlockHeader.make (number rawLen storedLen : Nat) (flags : Byte) (crc : Word32) : BlockHeader :=
  let h : BlockHeader := { number := number, rawLen := rawLen, flags := flags, storedLen := storedLen, check := 0, crc := crc }
  { h with check := headerCheck h.bytes }

def BlockHeader.parse (bs : List Byte) : BlockHeader :=
  { number := beField bs 0 4, rawLen := beField bs 4 3, flags := bs.getD 7 0, storedLen := beField bs 8 3,
    check := bs.getD 11 0, crc := BitVec.ofNat 32 (beField bs 12 4) }

/-- The decoder's test of a header against the block number expected (R14). -/
def BlockHeader.passes (h : BlockHeader) (expected : Nat) : Bool :=
  (h.check == headerCheck h.bytes) && (h.number == expected) &&
  (if h.flags = flagMarker then h.rawLen == 0 && h.storedLen == 0
   else if h.flags = flagRaw then
     h.storedLen == h.rawLen && decide (1 ≤ h.rawLen) && decide (h.rawLen ≤ Config.payloadSize)
   else if h.flags = flagCompressed then
     decide (1 ≤ h.storedLen) && decide (h.storedLen < h.rawLen) && decide (2 ≤ h.rawLen)
       && decide (h.rawLen ≤ Config.payloadSize)
   else false)

def BlockHeader.isMarker (h : BlockHeader) : Bool := h.flags == flagMarker

/-! ### The catalog image -/

def Zone.bytes (z : Zone) : List Byte :=
  beBytes 1 (if z.enabled then 1 else 0) ++ beBytes 4 z.base ++ beBytes 1 z.k ++ beBytes 1 z.access.value
    ++ beBytes 1 (if z.compression then 1 else 2)

def Extent.bytes (e : Extent) : List Byte :=
  beBytes 4 e.session ++ beBytes 1 e.wrap ++ segBytes e.first ++ segBytes e.last ++ beBytes 4 e.firstStripe
    ++ beBytes 4 e.stripes ++ beBytes 4 e.firstBlock ++ beBytes 4 e.blocks ++ beBytes 4 e.markers ++ beBytes 8 e.raw
    ++ beBytes 8 e.stored ++ beBytes 4 e.rewrites ++ beBytes 4 e.gaps ++ beBytes 1 (if e.merged then 1 else 0)

/-- The catalog image (R38): 102 + 56 × E bytes. -/
def Catalog.image (c : Catalog) : List Byte :=
  let body := beBytes 4 c.blockCount ++ beBytes 4 c.markerCount ++ beBytes 1 c.append.wrap ++ segBytes c.append.seg
    ++ beBytes 4 c.append.stripe ++ beBytes 4 c.session ++ beBytes 4 c.eod.session ++ beBytes 4 c.eod.stripe
    ++ beBytes 4 c.eod.block ++ beBytes 2 c.extents.length ++ (c.zones.flatMap Zone.bytes)
    ++ (c.extents.flatMap Extent.bytes)
  body ++ beBytes 4 (crc32 body).toNat

/-- A zone of an image, when every field is inside its encoding, k is 4 to 31 and the base has its low k bits clear (R40). -/
def Zone.parse (bs : List Byte) : Option Zone :=
  let base := beField bs 1 4
  let k := beField bs 5 1
  match parseSwitch (beField bs 0 1), Access.parse (beField bs 6 1), parseCompression (beField bs 7 1) with
  | some en, some acc, some comp =>
    if 4 ≤ k ∧ k ≤ 31 ∧ base % 2 ^ k = 0 then
      some { enabled := en, base := base, k := k, access := acc, compression := comp }
    else none
  | _, _, _ => none

/-- Zones 0 to 7 of an image, or nothing when one fails (R40). -/
def parseZones : Nat → List Byte → Option (List Zone)
  | 0, _ => some []
  | n + 1, bs =>
    match Zone.parse bs, parseZones n (bs.drop 8) with
    | some z, some zs => some (z :: zs)
    | _, _ => none

def segOfBytes (bs : List Byte) (i : Nat) : Int :=
  if beField bs i 3 = 0xFFFFFF then -1 else (beField bs i 3 : Nat)

def Extent.parse (bs : List Byte) : Extent :=
  { session := beField bs 0 4, wrap := beField bs 4 1, first := segOfBytes bs 5, last := segOfBytes bs 8,
    firstStripe := beField bs 11 4, stripes := beField bs 15 4, firstBlock := beField bs 19 4, blocks := beField bs 23 4,
    markers := beField bs 27 4, raw := beField bs 31 8, stored := beField bs 39 8, rewrites := beField bs 47 4,
    gaps := beField bs 51 4, merged := beField bs 55 1 = 1 }

def parseExtents : Nat → List Byte → List Extent
  | 0, _ => []
  | n + 1, bs => Extent.parse bs :: parseExtents n (bs.drop 56)

/-- The number of segments of an extent's range (R20). -/
def Extent.span (e : Extent) : Nat := (e.last - e.first).natAbs + 1

/-- The ordering of R19 over the table from block `b` on: each extent begins at the block after the last of the one
before. -/
def extentsOrdered : Nat → List Extent → Bool
  | _, [] => true
  | b, e :: es => (e.firstBlock == b) && extentsOrdered (b + e.blocks) es

/-- The checks of R19 and R20 over a table and its block count. -/
def extentsConsistent (blockCount : Nat) (es : List Extent) : Bool :=
  extentsOrdered 0 es && ((es.map Extent.blocks).sum == blockCount)
    && es.all (fun e => e.span == e.stripes + e.rewrites + e.gaps)

/-- What an image gives when it passes the checks of R40, with the session number left for the caller to compare. -/
structure ImageContents where
  blockCount : Nat
  markerCount : Nat
  append : AppendPoint
  session : Nat
  zones : List Zone
  extents : List Extent
  deriving DecidableEq, Repr

/-- The image of a catalog stripe with payload bytes used `used`, when it passes the checks of R40. -/
def parseImage (used : Nat) (bs : List Byte) (counter : Nat) : Option ImageContents :=
  let count := beField bs 32 2
  let size := 102 + 56 * count
  let extents := parseExtents count (bs.drop 98)
  match parseZones 8 (bs.drop 34) with
  | none => none
  | some zones =>
    if count ≤ 1024 ∧ used = size ∧ beField bs (98 + 56 * count) 4 = (crc32 (bs.take (98 + 56 * count))).toNat
        ∧ extentsConsistent (beField bs 0 4) extents = true ∧ beField bs 16 4 = counter then
      some
        { blockCount := beField bs 0 4, markerCount := beField bs 4 4,
          append := { wrap := beField bs 8 1, seg := segOfBytes bs 9, stripe := beField bs 12 4 },
          session := beField bs 16 4, zones := zones, extents := extents }
    else none

end Sys2Proof.Machine
end

