-- ==== Sys2Proof/Machine/Tape.lean ====
section
/-! DEFINITION. The tracks of a stripe: how a payload is laid on 16 data tracks with the parity tracks P and Q (R6), what the
part drives on TRK_WR, and what a reading of a segment yields (R7, R2). -/

namespace Sys2Proof.Machine

/-! ### Writing -/

/-- A payload padded with zeros to 262,144 bytes (R10). -/
def padPayload (payload : List Byte) : List Byte :=
  payload ++ List.replicate (Config.payloadSize - payload.length) 0

/-- The bytes of data track t: payload byte i lies on track i mod 16 at position floor(i / 16) (R6). -/
def dataTrack (payload : List Byte) (t : Nat) : List Byte :=
  (List.range (payload.length / 16)).map fun j => payload.getD (16 * j + t) 0

/-- One byte of track P from the 16 data bytes at its position (R6). -/
def parityP (column : List Byte) : Byte := column.foldl (· ^^^ ·) 0

/-- The sum over t of byte t times 2^t, from track number t on (R6). -/
def weightedSum : Nat → List Byte → Nat
  | _, [] => 0
  | t, b :: bs => gfMul b.toNat (gfPow2 t) ^^^ weightedSum (t + 1) bs

/-- One byte of track Q (R6). -/
def parityQ (column : List Byte) : Byte := BitVec.ofNat 8 (weightedSum 0 column)

/-- The 16 data bytes at position j. -/
def payloadColumn (payload : List Byte) (j : Nat) : List Byte :=
  (List.range 16).map fun t => payload.getD (16 * j + t) 0

/-- A track as written: the header copy, its bytes, and the CRC-32 over both (R6). DESIGN CHOICE (log 85): the synchronisation run ahead of
the header, whose length and content the spec does not give, and the erased stretch behind the CRC-32 (R1) are no part of it. -/
def recordedTrack (header body : List Byte) : List Byte :=
  header ++ body ++ beBytes 4 (crc32 (header ++ body)).toNat

/-- The 18 tracks that the write elements carry for a stripe (R6). -/
def stripeTracks (h : StripeHeader) (payload : List Byte) : List (List Byte) :=
  let p := padPayload payload
  let rows := p.length / 16
  let bodies := (List.range 16).map (dataTrack p)
    ++ [(List.range rows).map fun j => parityP (payloadColumn p j),
        (List.range rows).map fun j => parityQ (payloadColumn p j)]
  bodies.map (recordedTrack h.bytes)

/-- A payload whose lost bursts of 512 bytes are zeros (R102). -/
def zeroBursts (payload : List Byte) (lost : List Nat) : List Byte :=
  payload.mapIdx fun i b => if lost.contains (i / 512) then 0 else b

/-- The tracks as driven after lost bursts: the bytes are zeros, and a data track keeps the CRC-32 of the bytes it should hold, so
that the tracks the burst belongs to fail their check (R102). -/
def drivenTracks (h : StripeHeader) (payload : List Byte) (lost : List Nat) : List (List Byte) :=
  let zeroed := stripeTracks h (zeroBursts (padPayload payload) lost)
  (List.zipWith (fun whole driven => driven.take (driven.length - 4) ++ whole.drop (whole.length - 4))
    ((stripeTracks h payload).take 16) (zeroed.take 16)) ++ zeroed.drop 16

/-! ### Reading -/

/-- A read element that returned nothing. -/
def lostTrack : TrackRead := { lost := true, bytes := [], amplitude := 0 }

/-- The 18 tracks of a reading, element 0 first. -/
def eighteen (reads : List TrackRead) : List TrackRead := (List.range 18).map fun i => reads.getD i lostTrack

/-- A track's bytes between its header copy and its CRC-32. -/
def trackBody (t : TrackRead) : List Byte := (t.bytes.drop 28).take (t.bytes.length - 32)

/-- FAIL: the signal lost, or the CRC-32 over the header copy and bytes other than the one recorded (R7). -/
def trackFails (t : TrackRead) : Bool :=
  t.lost || decide (t.bytes.length < 32)
    || (beField t.bytes (t.bytes.length - 4) 4 != (crc32 (t.bytes.take (t.bytes.length - 4))).toNat)

/-- The amplitude a track reports: 0 when its signal was lost (R173). -/
def trackLevel (t : TrackRead) : Nat := if t.lost then 0 else t.amplitude.toNat

/-- The 16 data bytes of one position recomputed: `failed` lists the failed data tracks, at most two (R6, R7). -/
def recoverColumn (data : List Byte) (p q : Byte) (pFails : Bool) (failed : List Nat) : List Byte :=
  match failed with
  | [] => data
  | [a] =>
    let others := data.set a 0
    let byte := if pFails then
        BitVec.ofNat 8 (gfMul (q.toNat ^^^ weightedSum 0 others) (gfInv (gfPow2 a)))
      else p ^^^ parityP others
    data.set a byte
  | a :: b :: _ =>
    let others := (data.set a 0).set b 0
    let p' := (p ^^^ parityP others).toNat
    let q' := q.toNat ^^^ weightedSum 0 others
    let byteA := gfMul (q' ^^^ gfMul (gfPow2 b) p') (gfInv (gfPow2 a ^^^ gfPow2 b))
    (data.set a (BitVec.ofNat 8 byteA)).set b (BitVec.ofNat 8 (p' ^^^ byteA))

/-- The whole payload of a reading with at most two failed tracks (R7). -/
def recoverPayload (tracks : List TrackRead) (fails : List Bool) : List Byte :=
  let bodies := tracks.map trackBody
  let rows := (bodies.map List.length).foldl max 0
  let failed := (List.range 16).filter fun t => fails.getD t true
  (List.range rows).flatMap fun j =>
    let at_ (t : Nat) : Byte := (bodies.getD t []).getD j 0
    recoverColumn ((List.range 16).map at_) (at_ 16) (at_ 17) (fails.getD 16 true) failed

/-- What the Tape Channel has of a segment: the 18 FAIL marks, their amplitudes, the outcome, and the header and payload
the outcome yields (R7). -/
structure SegRead where
  fails : List Bool
  levels : List Nat
  outcome : SegOutcome
  header : Option StripeHeader
  payload : List Byte
  deriving DecidableEq, Repr

/-- The 18 FAIL marks of a reading. After an underrun the bytes of a burst were lost, and a burst of 512 payload bytes has
bytes on every data track (R6, R102). -/
def failMarks (reads : List TrackRead) (underrun : Bool) : List Bool :=
  (List.range 18).map fun i => (underrun && decide (i < 16)) || trackFails (reads.getD i lostTrack)

def countFails (fails : List Bool) : Nat := (fails.filter id).length

/-- A header has the stripe kind of the place it was read at: CATALOG in segments 2 to 15 of wrap 0, DATA from the first
data segment on (R2). -/
def kindFits (a : SegAddr) (h : StripeHeader) : Bool :=
  if ordinal a < 0 then !h.isData && decide (2 ≤ a.seg) else h.isData

/-- The reading of the segment at `a` (R7, R2): the header comes from the first PASS track in the order 0 to 15, P, Q. -/
def readSegment (a : SegAddr) (reads : List TrackRead) (underrun : Bool) : SegRead :=
  let tracks := eighteen reads
  let fails := failMarks reads underrun
  let f := countFails fails
  let empty : SegRead :=
    { fails := fails, levels := tracks.map trackLevel, outcome := .empty, header := none, payload := [] }
  match (List.range 18).find? fun i => !fails.getD i true with
  | none => empty
  | some i =>
    match StripeHeader.parse ((tracks.getD i lostTrack).bytes.take 28) with
    | none => empty
    | some h =>
      if kindFits a h then
        { empty with
          outcome := outcomeOfFails f, header := some h,
          payload := if (outcomeOfFails f).decodable then (recoverPayload tracks fails).take h.used else [] }
      else empty

/-- The count f of a verdict: FAIL results of tracks whose element is not DEAD (R126). -/
def countedFails (table : List Element) (fails : List Bool) : Nat :=
  ((List.range 18).filter fun i => fails.getD i true && !(table.getD i Element.unscanned).isDead).length

end Sys2Proof.Machine
end

