-- ==== Sys2Proof/Machine/HeadOps.lean ====
section
/-! DEFINITION. The Head Monitor's shared operations: per-track results (R173), FOLLOW (R174), PC and the spread set (R179),
the decay (R180), commits (R181), mounts and medium records (R182, R183), the meter and the Cleaning Call (R184, R185). -/

namespace Sys2Proof.Machine

/-- Raises an attention kind (R196). -/
def State.raise (s : State) (k : Kind) : State := { s with att := s.att.raise k }

def State.raiseIf (s : State) (b : Bool) (k : Kind) : State := if b then s.raise k else s

/-- Evaluates the Cleaning Call level; a rise raises CLEANING_CALL once (R185). -/
def State.evaluateLevel (s : State) : State :=
  let lvl := cleaningLevel s.settings s.head.ci s.head.meter
  { s with head := { s.head with level := lvl } }.raiseIf (decide (s.head.level.rank < lvl.rank)) .cleaningCall

/-- The table re-evaluated against the thresholds in force; HEAD_CONDITION once when an entry becomes DEAD (R171). -/
def State.setTable (s : State) (table : List Element) : State :=
  { s with head := { s.head with table := table } }.raiseIf (newlyDead s.head.table table) .headCondition

/-- The spread set as a rising list without duplicates (R179). -/
def spreadUnion (spread added : List Nat) : List Nat :=
  (List.range 18).filter fun i => spread.contains i || added.contains i

/-- Which row of the commit table applies (R181). -/
def HeadMonitor.attribution (h : HeadMonitor) : Attribution :=
  if 4 ≤ h.spread.length ∨ h.last = .head then .head
  else if 100 ≤ h.pc then .medium
  else .clean

/-- The medium record of the open mount after a commit with attribution `a` and charge `pc` (R181). -/
def MediumRecord.committed (r : MediumRecord) (a : Attribution) (pc : Nat) : MediumRecord :=
  match a with
  | .medium => { r with charge := satAdd max16 r.charge pc, suspect := satAdd 15 r.suspect 1, attribution := a }
  | _ => { r with attribution := a }

/-- A commit moves PC into CI or into the medium record of the open mount, and empties PC and the spread set (R181). -/
def HeadMonitor.commit (h : HeadMonitor) : HeadMonitor :=
  let a := h.attribution
  { h with
    ci := match a with | .head => satAdd 1000 h.ci h.pc | _ => h.ci
    pc := 0
    spread := []
    last := a
    records := h.records.modify h.mount.index (fun r => r.committed a h.pc) }

/-- A MEDIUM outcome that leaves the suspect count at 2 or more (R181). -/
def HeadMonitor.suspectRaised (h : HeadMonitor) : Bool :=
  match h.attribution, h.commit.records[h.mount.index]? with
  | .medium, some r => decide (2 ≤ r.suspect)
  | _, _ => false

/-- The commit with its attention and the level's evaluation (R181). -/
def State.commitPc (s : State) : State :=
  ({ s with head := s.head.commit }.raiseIf s.head.suspectRaised .mediumSuspect).evaluateLevel

/-- CI falls by floor(CI / 8), the run returns to 0, the level is evaluated (R180). -/
def State.decay (s : State) : State :=
  { s with head := { s.head with ci := s.head.ci - s.head.ci / 8, decayRun := 0 } }.evaluateLevel

/-- Step 1 of R173: each FAIL raises its element's fails counts, DEAD elements included. -/
def countElementFails (table : List Element) (fails : List Bool) : List Element :=
  table.mapIdx fun i e =>
    if fails.getD i true then
      { e with failsMount := satAdd max16 e.failsMount 1, failsLife := satAdd max32 e.failsLife 1 }
    else e

/-- The elements outside the DEAD set that gave a FAIL (R173). -/
def countedElements (table : List Element) (fails : List Bool) : List Nat :=
  (List.range 18).filter fun i => fails.getD i true && !(table.getD i Element.unscanned).isDead

/-- Steps 1, 2 and 4 of R173 on the record: fails counts, mount counters, PC and the spread set (R179), the decay run's count
(R180; its expiry follows). -/
def HeadMonitor.takeResults (h : HeadMonitor) (fails : List Bool) : HeadMonitor :=
  let counted := 18 - deadCount h.table
  let failed := countedElements h.table fails
  let f := failed.length
  { h with
    table := countElementFails h.table fails
    mount := { h.mount with counted := satAdd max32 h.mount.counted counted, failed := satAdd max32 h.mount.failed f }
    pc := satAdd max16 h.pc (4 * f)
    spread := spreadUnion h.spread failed
    decayRun := if f = 0 then h.decayRun + 1 else 0 }

/-- Step 3 of R173: the FOLLOW update of every scanned element (R174). -/
def State.followLevels (s : State) (levels : List Nat) : State :=
  if s.settings.follow then
    s.setTable (s.head.table.mapIdx fun i e => e.follow s.settings (levels.getD i 0))
  else s

/-- One set of per-track results (R173), its steps in order: counts, FOLLOW, PC, spread set and decay run, the commit at
PC 400 in an open mount, the level. -/
def State.headResults (s : State) (fails : List Bool) (levels : List Nat) : State :=
  let s1 := { s with head := s.head.takeResults fails }.followLevels levels
  let s2 := if 512 ≤ s1.head.decayRun then s1.decay else s1
  let s3 := if 400 ≤ s2.head.pc ∧ s2.head.mount.isOpen = true then s2.commitPc else s2
  s3.evaluateLevel

/-- The kilosegment meter rises by one and the level is evaluated (R184). -/
def State.kilosegment (s : State) : State :=
  { s with head := { s.head with meter := satAdd max16 s.head.meter 1 } }.evaluateLevel

/-- PC and the spread set are discarded without a commit (R179). -/
def State.discardPc (s : State) : State := { s with head := { s.head with pc := 0, spread := [] } }

/-- On entering MOUNTING the mount counters and every fails this mount become 0 (R182). -/
def State.startMountCounts (s : State) : State :=
  { s with head := { s.head with
      mount := { s.head.mount with counted := 0, failed := 0 }
      table := s.head.table.map fun e => { e with failsMount := 0 } } }

/-- The position of the record with a serial (R183). -/
def findRecord (rs : List MediumRecord) (serial : List Byte) : Option Nat :=
  rs.findIdx? fun r => r.serial == serial

/-- The position of the record with the lowest last mount sequence, the lowest position winning (R183): `best` is the
position and sequence found so far, `i` the position of the list's head. -/
def oldestRecord : List MediumRecord → Nat → Nat → Nat → Nat
  | [], _, best, _ => best
  | r :: rs, i, best, seq => if r.lastSeq < seq then oldestRecord rs (i + 1) i r.lastSeq else oldestRecord rs (i + 1) best seq

/-- The record made for a serial's first mount (R183). -/
def MediumRecord.fresh (serial : List Byte) (seq : Nat) : MediumRecord :=
  { serial := serial, mounts := 1, lastSeq := seq, lastRate := 0, charge := 0, suspect := 0, attribution := .clean }

/-- The table with the serial's record found or made for mount sequence `seq`, and its position (R183). -/
def placeRecord (rs : List MediumRecord) (serial : List Byte) (seq : Nat) : List MediumRecord × Nat :=
  match findRecord rs serial with
  | some i => (rs.modify i fun r => { r with mounts := satAdd max16 r.mounts 1, lastSeq := seq }, i)
  | none =>
    if rs.length < 32 then (rs ++ [MediumRecord.fresh serial seq], rs.length)
    else
      let i := match rs with | [] => 0 | r :: more => oldestRecord more 1 0 r.lastSeq
      (rs.set i (MediumRecord.fresh serial seq), i)

/-- The mount opens: mount sequence, medium record, mount record; a PC of 400 or more is then committed (R182). -/
def State.openMount (s : State) (serial : List Byte) : State :=
  let seq := satAdd max32 s.head.mountSeq 1
  let placed := placeRecord s.head.records serial seq
  let s1 := { s with head := { s.head with
      mountSeq := seq, records := placed.1,
      mount := { s.head.mount with isOpen := true, serial := serial, index := placed.2 } } }
  if 400 ≤ s1.head.pc then s1.commitPc else s1

/-- floor(tracks failed × 1,000 / tracks counted), or 0 when none is counted (R182). -/
def failureRate (m : MountRecord) : Nat := if m.counted = 0 then 0 else m.failed * 1000 / m.counted

/-- The commit of the mount: PC committed, the failure rate written, the mount closed (R182). -/
def State.commitMount (s : State) : State :=
  if s.head.mount.isOpen then
    let s1 := s.commitPc
    { s1 with head := { s1.head with
        records := s1.head.records.modify s1.head.mount.index fun r => { r with lastRate := failureRate s1.head.mount }
        mount := { s1.head.mount with isOpen := false } } }
  else s

/-- What a completed cleaning run resets (R186): CI, meter, level, last attribution; the post-clean flag is set. -/
def State.cleaned (s : State) : State :=
  { s with head := { s.head with ci := 0, meter := 0, level := .none, last := .clean, postClean := true } }

end Sys2Proof.Machine
end

