-- ==== Sys2Proof/Machine/Ops.lean ====
section
/-! DEFINITION. The shared named operations: responses and the outstanding operation (R190, R192), slots (R88), segment plans
(R74, R75), stops and motions (R69, R77 to R83), the step handed by the Governor (R162), Medium State entries (R46). -/

namespace Sys2Proof.Machine

/-! ### Responses -/

/-- A response is placed in the queue (R190, R192). DESIGN CHOICE (log 65): it is placed though 16 stand there, as the late answer of a
SET ZONE may find them (R52). -/
def State.respond (s : State) (tag : Byte) (code : Code) (payload : Payload) : State :=
  { s with link := { s.link with queue := s.link.queue ++ [{ tag := tag, code := code, payload := payload }] } }

/-- The outstanding operation's response is placed, and no operation is outstanding (R192). -/
def State.endOp (s : State) (code : Code) (payload : Payload) : State :=
  match s.link.outstanding with
  | none => s
  | some o =>
    let s1 := s.respond o.tag code payload
    { s1 with link := { s1.link with outstanding := none } }

/-- The phase of the outstanding operation. -/
def State.setPhase (s : State) (p : OpPhase) : State :=
  { s with link := { s.link with outstanding := s.link.outstanding.map fun o => { o with phase := p } } }

/-- Room for a request's answer: one free place, one more while an operation is outstanding (R190). -/
def State.hasRoom (s : State) : Bool :=
  decide (s.link.queue.length + 1 + (if s.link.outstanding.isSome then 1 else 0) ≤ Config.responsePlaces)

/-- The outstanding operation's parameters. -/
def State.op (s : State) : Option Op := s.link.outstanding.map Outstanding.op

def State.opPhase (s : State) : Option OpPhase := s.link.outstanding.map Outstanding.phase

/-! ### Medium State -/

/-- The states whose entry raises MEDIUM_CHANGE (R46). -/
def MediumState.announced : MediumState → Bool
  | .empty => true | .seated => true | .mounted => true | .ejected => true | .stuck => true
  | _ => false

/-- An entry into a Medium State (R46). -/
def State.enterMedium (s : State) (m : MediumState) : State :=
  { s with medium := { s.medium with state := m } }.raiseIf m.announced .mediumChange

def State.setMediumPhase (s : State) (p : MediumPhase) : State := { s with medium := { s.medium with phase := p } }

/-! ### Slots -/

/-- Slot i, or a FREE one beyond the table. -/
def slotAt (slots : List Slot) (i : Nat) : Slot := slots.getD i Slot.empty

def State.slot (s : State) (i : Nat) : Slot := slotAt s.queue.slots i

def State.setSlots (s : State) (slots : List Slot) : State := { s with queue := { s.queue with slots := slots } }

def State.modifySlot (s : State) (i : Nat) (f : Slot → Slot) : State := s.setSlots (s.queue.slots.modify i f)

/-- A slot becomes FREE: direction and every other field absent or zero (R88). -/
def State.freeSlot (s : State) (i : Nat) : State := s.modifySlot i fun _ => Slot.empty

/-- Every slot that `p` names becomes FREE. -/
def State.freeSlotsWhere (s : State) (p : Slot → Bool) : State :=
  s.setSlots (s.queue.slots.map fun t => if p t then Slot.empty else t)

/-- The lowest-numbered slot that `p` names. -/
def State.findSlot (s : State) (p : Slot → Bool) : Option Nat := s.queue.slots.findIdx? p

/-- The lowest-numbered FREE slot (R90, R98). -/
def State.lowestFree (s : State) : Option Nat := s.findSlot fun t => t.state == .free

def slotCountOf (slots : List Slot) (st : SlotState) : Nat := (slots.filter fun t => t.state == st).length

def State.countState (s : State) (st : SlotState) : Nat := slotCountOf s.queue.slots st

/-- The highest-numbered slot in a state. -/
def highestSlot (slots : List Slot) (st : SlotState) : Option Nat :=
  ((List.range slots.length).filter fun i => (slotAt slots i).state == st).getLast?

/-- The slot with the lowest stripe number among those `p` names, as index and stripe (R89, R91). -/
def lowestStripe (slots : List Slot) (p : Slot → Bool) : Option (Nat × Nat) :=
  ((List.range slots.length).filterMap fun i =>
      let t := slotAt slots i
      if p t then t.stripe.map fun n => (i, n) else none).foldl
    (fun best x => match best with
      | none => some x
      | some y => if x.2 < y.2 then some x else some y) none

def SlotState.direction : SlotState → Option Direction
  | .free => none
  | .filling => some .write | .ready => some .write | .inFlight => some .write
  | .loading => some .read | .decoded => some .read | .draining => some .read
  | .intake => some .stage | .build => some .stage | .outflow => some .stage
  | .image => some .catalog

/-- The direction field of a slot record (R88). -/
def Slot.direction (t : Slot) : Option Direction := t.state.direction

def Slot.isWrite (t : Slot) : Bool := t.direction == some .write
def Slot.isRead (t : Slot) : Bool := t.direction == some .read
def Slot.isStage (t : Slot) : Bool := t.direction == some .stage

/-- The fill of a slot record (R88). -/
def Slot.fill (t : Slot) : Nat := t.payload.length

/-- A slot in a state that holds a stripe number. -/
def State.holdsStripe (s : State) (n : Nat) : Bool := s.queue.slots.any fun t => t.stripe == some n

/-- The FILLING slot. -/
def State.fillingSlot (s : State) : Option Nat := s.findSlot fun t => t.state == .filling

/-- Takes the lowest FREE slot in state `st`, if there is one. -/
def State.takeFree (s : State) (st : SlotState) : Option (State × Nat) :=
  s.lowestFree.map fun i => (s.modifySlot i fun _ => { Slot.empty with state := st }, i)

/-- Takes a FREE slot for a stage not yet held, if there is one (R96). DESIGN CHOICE (log 59): the lowest-numbered one. -/
def State.takeStage (s : State) (st : SlotState) : State :=
  if (s.findSlot fun t => t.state == st).isSome then s
  else match s.takeFree st with
    | some (s1, _) => s1
    | none => s

/-- The stages INTAKE and BUILD of a write session, taken as slots become FREE (R96). DESIGN CHOICE (log 59): INTAKE before BUILD. -/
def State.takeStages (s : State) : State := (s.takeStage .intake).takeStage .build

/-! ### Tension, duties and Transport State -/

/-- The tension asked for; the loops take it at once, and the duty each computes is driven clamped to 0 to 1,000 (R68). -/
def State.setTension (s : State) (t : Tension) : State :=
  let n := s.transport.tensionChanges + 1
  let duty (takeUp : Bool) : Nat := match t with
    | .none => 0
    | _ => clamp 0 1000 (Config.reelDuty takeUp n)
  { s with transport := { s.transport with tension := t, tensionChanges := n, dutyS := duty false, dutyT := duty true } }

/-- The tension a Transport State holds (R67). -/
def TransportState.tension : TransportState → Tension
  | .parked => .none | .threadMotion => .threading | .relaxed => .hold | _ => .working

/-- The states on whose entry the Channel Synthesizer becomes OFF (R85). -/
def TransportState.synthOff : TransportState → Bool
  | .parked => true | .threadMotion => true | .relaxed => true | _ => false

/-- An entry into a Transport State: its tension (R68), the synthesizer (R85), the relax timer (R84), position known (R70),
and the active plan: PASS in a motion state other than STREAMING (R74). DESIGN CHOICE (log 50): at rest and in THREAD_MOTION, where no
segment passes under a plan, the active slot is empty. -/
def State.enterTransport (s : State) (t : TransportState) : State :=
  let tr := s.transport
  { s with transport := { tr with
      state := t
      synth := if t.synthOff then .off else tr.synth
      known := match t with | .threadMotion => false | _ => tr.known
      relaxTimer := t == TransportState.stopped
      active := match t with
        | .locating => some .pass | .backhitch => some .pass | .turnaround => some .pass
        | .streaming => tr.active
        | _ => none } }.setTension t.tension

/-- The tape is moving under the Transport Controller's own motions (R83). -/
def TransportState.moving : TransportState → Bool
  | .locating => true | .streaming => true | .backhitch => true | .turnaround => true | _ => false

/-! ### Plans -/

/-- What a slot loses with a plan that is emptied unused or cut short: a WRITE plan's planned mark (R91), a READ plan's
LOADING slot (R98). -/
def State.dropPlan (s : State) (p : Option Plan) : State :=
  match p with
  | some (.write i _ _) => s.modifySlot i fun t => { t with planned := false }
  | some (.read i) => if (s.slot i).state = .loading then s.freeSlot i else s
  | _ => s

/-- The standby slot is emptied and its plan not used (R80). -/
def State.emptyStandby (s : State) : State :=
  let s1 := s.dropPlan s.transport.standby
  { s1 with transport := { s1.transport with standby := none } }

/-- Both plans are emptied (R74, R83). -/
def State.emptyPlans (s : State) : State :=
  let s1 := (s.dropPlan s.transport.active).emptyStandby
  { s1 with transport := { s1.transport with active := none } }

/-- The write elements fall idle (R12, R76): the gate falls, the erase current with it, and the account of the bursts of the
segment that ends or is cut short is over (R102). -/
def State.closeGate (s : State) : State :=
  { s with tape := { s.tape with gate := false, writing := none, erase := false, underrun := false, served := 0, lost := [] } }

/-- The owner of the stream under way (R72). -/
def State.owner (s : State) : Option Owner :=
  match s.transport.motion with
  | .stream o => some o
  | _ => none

/-- The owner of the stream that a motion request asks for (R78). -/
def MotionReq.owner : MotionReq → Option Owner
  | .stream o _ => some o
  | .locateEnd _ => none
  | .unmountRewind => none
  | .reelRewind => none

/-- The owner of the stream that a motion makes or is on the way to (R72, R78). -/
def Motion.streamOwner : Motion → Option Owner
  | .idle => none
  | .stream o => some o
  | .retension r => r.owner
  | .rewind r => r.owner
  | .reacquire r => r.owner
  | .travel r => r.owner

/-- Streams whose step the Governor chooses (R162). -/
def Owner.governed : Owner → Bool
  | .write => true | .read => true | _ => false

/-- The default plan of a segment that begins with the standby slot empty (R74). -/
def defaultPlan : Option Owner → Plan
  | some .write => .gap
  | some .save => .gap
  | _ => .pass

/-! ### The Governor's step -/

/-- The Governor sets the pending step while a governed stream exists (R162); a pending step equal to the step in effect is
cleared (R75). -/
def State.syncPending (s : State) : State :=
  if s.gov.governed then
    if s.gov.step = s.transport.step then
      { s with transport := { s.transport with pendingStep := none } }
    else if s.transport.standby = some (.acquiring s.gov.step) then s
    else { s with transport := { s.transport with pendingStep := some s.gov.step } }
  else s

/-! ### Stops -/

/-- The Governor as a stop demanded leaves it: the owner of a governed stream, which exists from its first request on (R162), sets the
quick-fall mark (R160); the stream of one whose session or read-ahead has ended is governed no more. -/
def State.quickStop (s : State) : Governor :=
  if s.gov.governed && (s.transport.motion.streamOwner.map Owner.governed).getD false then { s.gov with quick := true } else s.gov

/-- A controlled stop is demanded (R80); the owner of a governed stream that demands one sets the quick-fall mark (R160). DESIGN CHOICE
(log 90): with the tape at rest, in BACKHITCH, in LOCATING, in a turnaround that carries a stop out, under an immediate stop or running
out after wrap 63 there is no stop to demand, and the mark stays as it stands; a demand made while another waits for its boundary takes
that one's place. -/
def State.demandStop (s : State) (resume : Option SegAddr) : State :=
  match s.transport.state, s.transport.stop with
  | .streaming, .none | .turnaround, .none | .streaming, .demanded _ | .turnaround, .demanded _ =>
    { s with
      transport := { s.transport with stop := .demanded resume }
      gov := s.quickStop }
  | _, _ => s

/-- A controlled stop naming no resume segment, of a stream or of the locate motion toward one (R80, R148, R151, R154, R177). DESIGN
CHOICE (log 63): in LOCATING it is taken at the next boundary, as in a stream, and comes to rest where its deceleration ends. -/
def State.demandHalt (s : State) : State :=
  match s.transport.state, s.transport.stop with
  | .locating, .none =>
    { s with
      transport := { s.transport with stop := .demanded none }
      gov := s.quickStop }
  | _, _ => s.demandStop none

/-- An immediate stop: the gate closes, both plans are emptied, the tape decelerates (R83), and the Governor sets the pending
step that an emptied ACQUIRING plan carried again (R162); at rest or in THREAD_MOTION it changes nothing. -/
def State.immediateStop (s : State) : State :=
  if s.transport.state.moving then
    let s1 := s.closeGate.emptyPlans
    { s1 with transport := { s1.transport with stop := .immediate, deferred := none } }.syncPending
  else s

/-! ### Motions -/

/-- The rest point of a motion request (R79). DESIGN CHOICE (log 35): a LOCATE to the end of data or to the beginning, which
no stream follows, comes to rest at the ready point of its segment. -/
def MotionReq.restPoint : MotionReq → Pos
  | .stream _ t => readyPoint t
  | .locateEnd t => readyPoint t
  | .unmountRewind => { wrap := 0, seg := 0, tach := 0 }
  | .reelRewind => { wrap := 0, seg := -32, tach := 0 }

/-- A stream begins from its ready point: the step (a governed stream's is the Governor's, others run at 0; R75, R156, R162), for
which no ACQUIRING plan is needed (R163), and two run-up segments passed with PASS (R78). -/
def State.startStream (s : State) (o : Owner) (t : SegAddr) : State :=
  let s1 := s.enterTransport .streaming
  { s1 with
    transport := { s1.transport with
      motion := .stream o, stop := .none, deferred := none, against := false, active := some .pass,
      standby := match s1.transport.standby with
        | some (.acquiring _) => none
        | p => p
      step := if o.governed then s1.gov.step else 0, pendingStep := none, runUp := 2, startAt := some t, unhanded := 0 }
    gov := if o.governed then { s1.gov with governed := true } else s1.gov }

/-- Locate motion toward the request's rest point (R79). -/
def State.startTravel (s : State) (req : MotionReq) : State :=
  let s1 := s.enterTransport .locating
  let p := s1.transport.pos
  { s1 with transport := { s1.transport with
      motion := .travel req, stop := .none, deferred := none,
      against := decide (({ req.restPoint with wrap := p.wrap } : Pos).along < p.along) } }

/-- The rewind by reel count, in LOCATING, the head stepping to wrap 0 (R77). -/
def State.startRewind (s : State) (req : MotionReq) : State :=
  let s1 := s.enterTransport .locating
  { s1 with transport := { s1.transport with motion := .rewind req, stop := .none, deferred := none,
                                             against := evenWrap s1.transport.pos.wrap } }

/-- A motion with the position known: a stream begins at once at its ready point, any other rest point is travelled to
(R78, R79). -/
def State.beginKnown (s : State) (req : MotionReq) : State :=
  match req with
  | .stream o t => if s.transport.pos = readyPoint t then s.startStream o t else s.startTravel req
  | r => s.startTravel r

/-- The owner still wants the stream it asked for: a session, a read-ahead, the Catalog Engine's work or a scan may have ended
while the request waited. -/
def State.wantsStream (s : State) (o : Owner) : Bool :=
  match o with
  | .write => s.writer.session.isSome
  | .read => s.reader.nextDrain.isSome && !s.reader.halted
  | .load => match s.catalog.work with | .load _ _ => true | _ => false
  | .save => match s.catalog.work with | .save _ _ => true | _ => false
  | .rebuild => match s.catalog.work with | .rebuild _ => true | _ => false
  | .fineSearch => match s.catalog.work with | .fine _ => true | _ => false
  | .markerScan => match s.catalog.work with | .markers _ => true | _ => false
  | .scan => match s.head.scan with | some c => c.ending == none | none => false
  | .cleaning => true

/-- A request still wanted. -/
def State.wants (s : State) (req : MotionReq) : Bool :=
  match req with
  | .stream o _ => s.wantsStream o
  | _ => true

/-- A motion begins from rest: by the rewind and re-acquisition of R77 while position known is clear; not at all when
it is no longer wanted. -/
def State.beginMotion (s : State) (req : MotionReq) : State :=
  if s.wants req then
    match req with
    | .reelRewind => s.startRewind req
    | r => if s.transport.known then s.beginKnown r else s.startRewind r
  else s

/-- A motion request of a block (R78, R79, R84): from STOPPED it begins, in RELAXED the tension rises first, while the tape
moves it waits for rest, a stream or a turnaround being brought to a controlled stop that names no resume segment. DESIGN CHOICE (log 78):
a turnaround that carries no stop goes on to its end first, and that stop begins at the boundary of the new wrap's first segment. DESIGN
CHOICE (log 86): in LOCATING the request waits for the rest of the locate motion under way, a stop already under way in a stream keeps its
resume segment, and a request takes the place of one that waits. -/
def State.requestMotion (s : State) (req : MotionReq) : State :=
  match s.transport.state with
  | .stopped => s.beginMotion req
  | .relaxed =>
    let s1 := s.setTension .working
    { s1 with transport := { s1.transport with motion := .retension req } }
  | .streaming | .turnaround =>
    let s1 := match s.transport.stop with
      | .none => s.demandStop none
      | _ => s
    { s1 with transport := { s1.transport with deferred := some req } }
  | .locating | .backhitch => { s with transport := { s.transport with deferred := some req } }
  | .parked | .threadMotion => s

/-- The tape has come to rest: STOPPED (R79, R80, R83), and the request that waited for rest begins. A check that no
boundary took before rest is not handed (R125). -/
def State.comeToRest (s : State) : State :=
  let s1 := s.enterTransport .stopped
  let waiting := s1.transport.deferred
  let s2 := { s1 with
    transport := { s1.transport with motion := .idle, stop := .none, deferred := none, runUp := 0, startAt := none, unhanded := 0 }
    tape := { s1.tape with flights := [] } }
  match waiting with
  | some req => s2.beginMotion req
  | none => s2

/-- The transport stops in place and is parked (R67). -/
def State.park (s : State) : State :=
  let s1 := s.closeGate.emptyPlans.enterTransport .parked
  { s1 with transport := { s1.transport with motion := .idle, stop := .none, deferred := none, runUp := 0, startAt := none, unhanded := 0 } }

/-- The Medium Controller threads or unthreads (R67). -/
def State.threadMotion (s : State) : State :=
  let s1 := s.closeGate.emptyPlans.enterTransport .threadMotion
  { s1 with transport := { s1.transport with motion := .idle, stop := .none, deferred := none, runUp := 0, startAt := none, unhanded := 0 } }

end Sys2Proof.Machine
end

