-- ==== Sys2Proof/Machine/CatalogOps.lean ====
section
/-! DEFINITION. The Catalog Engine's shared operations: zones (R29 to R31), lookup (R33), the locate estimate (R35), reservation
and merging (R22, R23), the confirmed prefix (R20, R21), the cut (R25) and the values at an unmount (R45). -/

namespace Sys2Proof.Machine

/-! ### Zones -/

/-- Block b matches a zone: b with its low k bits cleared equals the base (R29). -/
def Zone.matches (z : Zone) (b : Nat) : Bool := z.enabled && (b / 2 ^ z.k * 2 ^ z.k == z.base)

/-- The zone that governs a block: the lowest-numbered enabled zone that matches it (R29). -/
def governingZone (zones : List Zone) (b : Nat) : Option Zone := zones.find? fun z => z.matches b

/-- The access rule a block is written under; READ_WRITE when no zone matches (R29). -/
def accessOf (zones : List Zone) (b : Nat) : Access :=
  match governingZone zones b with | some z => z.access | none => .readWrite

/-- The compression policy of a block: its governing zone's, or the configured default (R29, R106). -/
def compressionOf (v : Settings) (zones : List Zone) (b : Nat) : Bool :=
  match governingZone zones b with | some z => z.compression | none => v.defaultCompression

/-- Two or more enabled zones match a block (R31). -/
def overlapped (zones : List Zone) (b : Nat) : Bool := decide (2 ≤ (zones.filter fun z => z.matches b).length)

/-- A zone's last block. -/
def Zone.lastBlock (z : Zone) : Nat := z.base + 2 ^ z.k - 1

/-- The blocks of the range lo to hi - 1 at which the zones that match change: the range's first block and each zone's first
and next block in it. Every block of the range is governed as one of these. -/
def rangeSamples (zones : List Zone) (lo hi : Nat) : List Nat :=
  (lo :: zones.flatMap fun z => [z.base, z.lastBlock + 1]).filter fun b => decide (lo ≤ b) && decide (b < hi)

/-- Some block of the range lo to hi - 1 is governed READ_ONLY or WRITE_ONCE (R26). -/
def rangeProtected (zones : List Zone) (lo hi : Nat) : Bool :=
  (rangeSamples zones lo hi).any fun b => accessOf zones b != .readWrite

/-- Some block of the range is matched by two or more enabled zones (R31). -/
def rangeOverlapped (zones : List Zone) (lo hi : Nat) : Bool :=
  (rangeSamples zones lo hi).any fun b => overlapped zones b

/-- Zone k of a request with its base's low k bits cleared and k clamped to 4 to 31 (R32). -/
def Zone.made (enabled : Bool) (base k : Nat) (access : Access) (compression : Bool) : Zone :=
  let k' := clamp 4 31 k
  { enabled := enabled, base := base / 2 ^ k' * 2 ^ k', k := k', access := access, compression := compression }

/-- ZONE_OVERLAP attention, at most once per request (R31). -/
def State.raiseOverlap (s : State) : State :=
  if s.reader.overlapRaised then s
  else { s with reader := { s.reader with overlapRaised := true } }.raise .zoneOverlap

/-! ### Lookup and estimate -/

/-- The extent record that holds block b's header, with its index; records of block count 0 are passed over (R33). -/
def extentOf (es : List Extent) (b : Nat) : Option (Nat × Extent) :=
  ((List.range es.length).zip es).find? fun p => decide (p.2.firstBlock ≤ b) && decide (b < p.2.firstBlock + p.2.blocks)

/-- The extent whose stripe range holds stripe n, with its index. -/
def extentOfStripe (es : List Extent) (n : Nat) : Option (Nat × Extent) :=
  ((List.range es.length).zip es).find? fun p =>
    decide (p.2.firstStripe ≤ n) && decide (n < p.2.firstStripe + p.2.stripes)

/-- The stop point of the locate estimate: 4 segments upstream of the estimated segment, moved to the extent's first segment
when upstream of it (R35). -/
def Extent.stopPoint (e : Extent) (b : Nat) : Int :=
  let offset : Int := ((b - e.firstBlock) * e.span / e.blocks : Nat)
  clampUpstream e.wrap e.first (upstreamBy e.wrap 4 (e.first + offset * recStep e.wrap))

/-- The Catalog Header as QUERY CATALOG reports it (R33). -/
def Catalog.report (c : Catalog) : HeaderReport :=
  { blockCount := c.blockCount, markerCount := c.markerCount, current := c.current, positionValid := c.positionValid,
    location := c.location, append := c.append, session := c.session, dirty := c.dirty, eod := c.eod,
    extents := c.extents.length }

/-! ### Current Block (R18) -/

/-- Mount complete, LOCATE to beginning (R18): Current Block 0, position-valid, the location at stripe 0, wrap 0, segment 16
when there is a block. -/
def Catalog.toBeginning (c : Catalog) : Catalog :=
  { c with
    current := 0, positionValid := true
    location := if 0 < c.blockCount then some { stripe := 0, wrap := 0, seg := 16, atZero := true, headerOnly := false } else none }

/-- LOCATE to end of data (R18). -/
def Catalog.toEnd (c : Catalog) : Catalog := { c with current := c.blockCount, positionValid := true, location := none }

/-- Position-valid cleared, the location absent (R18: an aborted LOCATE, POSITION_LOST, MOTOR_STALL, a failed search). -/
def Catalog.losePosition (c : Catalog) : Catalog := { c with positionValid := false, location := none }

def State.losePosition (s : State) : State := { s with catalog := s.catalog.losePosition }

/-! ### Reservation and merging -/

/-- Two adjacent records may be merged (R23). -/
def mergeable (openSession : Option Nat) (a b : Extent) : Bool :=
  (a.wrap == b.wrap) && (some a.session != openSession) && (some b.session != openSession)
    && decide (b.first = a.last + recStep a.wrap)

/-- The merged record (R23). -/
def Extent.merge (a b : Extent) : Extent :=
  { a with
    session := max a.session b.session, last := b.last, stripes := a.stripes + b.stripes, blocks := a.blocks + b.blocks,
    markers := a.markers + b.markers, raw := a.raw + b.raw, stored := a.stored + b.stored,
    rewrites := a.rewrites + b.rewrites, gaps := a.gaps + b.gaps, merged := true }

/-- The eligible pair of smallest combined span, the lower pair among equals: its first index and span (R23). `best` is the
one found so far, `i` the position of the list's head. -/
def bestPair (openSession : Option Nat) : Nat → List Extent → Option (Nat × Nat) → Option (Nat × Nat)
  | i, a :: b :: es, best =>
    let span := a.span + b.span
    let best' :=
      if mergeable openSession a b then
        match best with
        | some (j, m) => if span < m then some (i, span) else some (j, m)
        | none => some (i, span)
      else best
    bestPair openSession (i + 1) (b :: es) best'
  | _, _, best => best

/-- The records with pair i, i + 1 merged. -/
def mergeAt : Nat → List Extent → List Extent
  | 0, a :: b :: es => a.merge b :: es
  | n + 1, e :: es => e :: mergeAt n es
  | _, es => es

/-- Makes room for one more counted record: nothing to do below 1,024; else the merge of R23, or none possible (R24). -/
def Catalog.makeRoom (c : Catalog) (openSession : Option Nat) : Option Catalog :=
  if c.extents.length + c.reservations.length < 1024 then some c
  else match bestPair openSession 0 c.extents none with
    | some (i, _) => some { c with extents := mergeAt i c.extents, dirty := true }
    | none => none

/-- A reservation of an extent record for a wrap (R22), or its refusal with CATALOG_FULL (R24). -/
def Catalog.reserve (c : Catalog) (openSession : Option Nat) (wrap : Nat) (first : Int) : Option Catalog :=
  (c.makeRoom openSession).map fun d => { d with reservations := d.reservations ++ [{ wrap := wrap, first := first }] }

/-! ### The confirmed prefix -/

/-- A segment's report; a later report of the same segment replaces the earlier (R124). -/
def addReport (rs : List SegReport) (r : SegReport) : List SegReport :=
  if rs.any fun q => q.addr == r.addr then rs.map fun q => if q.addr == r.addr then r else q else rs ++ [r]

/-- The segments of a discarded stripe are reported again as gaps (R124). -/
def discardReports (rs : List SegReport) (point : Nat) : List SegReport :=
  rs.map fun r => match r.copy with
    | some (n, _) => if point ≤ n then { r with copy := none } else r
    | none => r

def reportAt (rs : List SegReport) (a : SegAddr) : Option SegReport := rs.find? fun r => r.addr == a

/-- The run of segments after `seg` on a wrap that are gaps or hold a copy of a prefix stripe, cut back to the last such
copy: the new last segment with the copies 1 to 3 and the gaps passed over (R21). `pend` counts those since the last
copy; the fuel bounds the run by the number of reports. -/
def extendRun (rs : List SegReport) (wrap : Nat) (top : Nat) : Nat → Int → Int → Nat × Nat → Nat × Nat → Int × Nat × Nat
  | 0, _, last, acc, _ => (last, acc.1, acc.2)
  | fuel + 1, seg, last, acc, pend =>
    let here := seg + recStep wrap
    match (reportAt rs { wrap := wrap, seg := here }).map SegReport.copy with
    | none => (last, acc.1, acc.2)
    | some none => extendRun rs wrap top fuel here last acc (pend.1, pend.2 + 1)
    | some (some (n, k)) =>
      if n ≤ top then
        let got := (acc.1 + pend.1 + (if k = 0 then 0 else 1), acc.2 + pend.2)
        extendRun rs wrap top fuel here here got (0, 0)
      else (last, acc.1, acc.2)

/-- The extent's last segment moved on over the reports, the segments passed counted (R20, R21). -/
def Extent.extend (e : Extent) (rs : List SegReport) (top : Nat) : Extent :=
  let r := extendRun rs e.wrap top rs.length e.last e.last (0, 0) (0, 0)
  { e with last := r.1, rewrites := e.rewrites + r.2.1, gaps := e.gaps + r.2.2 }

/-- The wrap on which a stripe's copy 0 was written, by the reports (R20). -/
def wrapOfCopyZero (rs : List SegReport) (n : Nat) : Option Nat :=
  (rs.find? fun r => r.copy == some (n, 0)).map fun r => r.addr.wrap

/-- A session's extent on a wrap. -/
def sessionExtent (es : List Extent) (session wrap : Nat) : Option Nat :=
  es.findIdx? fun e => (e.session == session) && (e.wrap == wrap)

/-- The record with a block counted in it: block count, marker count, raw and stored bytes (R21). -/
def Extent.addBlock (e : Extent) (b : EndingBlock) : Extent :=
  { e with blocks := e.blocks + 1, markers := e.markers + (if b.isMarker then 1 else 0), raw := e.raw + b.rawLen,
           stored := e.stored + b.storedLen }

/-- The header's counts after a block enters the catalog (R21). -/
def Catalog.countBlock (c : Catalog) (b : EndingBlock) : Catalog :=
  { c with blockCount := satAdd max32 c.blockCount 1,
           markerCount := satAdd max32 c.markerCount (if b.isMarker then 1 else 0) }

/-- The blocks of an account whose header lies in an earlier stripe: the first piece, when a header does not stand at
offset 0 (R8, R21). -/
def Account.carried (a : Account) : List EndingBlock :=
  if a.firstOffset = some 0 then [] else a.ending.filter fun b => b.number == a.firstPiece

def Account.own (a : Account) : List EndingBlock :=
  if a.firstOffset = some 0 then a.ending else a.ending.filter fun b => b.number != a.firstPiece

/-- Blocks entering the catalog, counted in the header and in extent i (R21). -/
def Catalog.countIn (c : Catalog) (i : Nat) (bs : List EndingBlock) : Catalog :=
  bs.foldl (fun d b => { d.countBlock b with extents := d.extents.modify i fun e => e.addBlock b }) c

/-- The extent that counts a block carried into stripe n (R21): the one that holds its header, which is the extent of the stripe
before, the table's last where no record holds that stripe. -/
def Catalog.carriedTo (c : Catalog) (n : Nat) : Nat :=
  match extentOfStripe c.extents (n - 1) with
  | some (i, _) => i
  | none => c.extents.length - 1

/-- Stripe n of a session joins the confirmed prefix (R21): a block carried over counts in the extent holding its header, the
reserved record enters the table with its first stripe, the extent takes the stripe, its segments and its blocks. -/
def Catalog.join (c : Catalog) (session n : Nat) (acct : Account) : Catalog :=
  let alone := c.extents.isEmpty
  let carried := if alone then [] else acct.carried
  let own := if alone then acct.ending else acct.own
  let c1 := c.countIn (c.carriedTo n) carried
  let wrap := (wrapOfCopyZero c.reports n).getD c.append.wrap
  let c2 : Catalog :=
    if (sessionExtent c1.extents session wrap).isSome then c1
    else
      let first := match c1.reservations.find? fun r => r.wrap == wrap with
        | some r => r.first
        | none => firstSeg wrap
      { c1 with
        extents := c1.extents ++
          [{ session := session, wrap := wrap, first := first, last := first - recStep wrap, firstStripe := n, stripes := 0,
             firstBlock := c1.blockCount, blocks := 0, markers := 0, raw := 0, stored := 0, rewrites := 0, gaps := 0,
             merged := false }]
        reservations := c1.reservations.filter fun r => r.wrap != wrap }
  let i := (sessionExtent c2.extents session wrap).getD 0
  let c3 : Catalog :=
    { c2 with extents := c2.extents.modify i fun e => ({ e with stripes := e.stripes + 1 }).extend c.reports n }
  { c3.countIn i own with dirty := true }

/-- Confirmed stripes join while the next of the prefix is among them, in stripe-number order (R21). -/
def Catalog.joinAll (session : Nat) : Nat → Catalog → Catalog
  | 0, c => c
  | fuel + 1, c =>
    match c.confirmed.find? fun p => p.1 == c.nextJoin with
    | none => c
    | some (n, acct) =>
      let d := { c with confirmed := c.confirmed.filter fun p => p.1 != n }.join session n acct
      Catalog.joinAll session fuel { d with nextJoin := n + 1 }

/-- A stripe is confirmed: it joins the prefix when every earlier stripe of the session has (R21). -/
def Catalog.confirm (c : Catalog) (session n : Nat) (acct : Account) : Catalog :=
  let d := { c with confirmed := c.confirmed ++ [(n, acct)] }
  Catalog.joinAll session d.confirmed.length d

/-- The last stripe number of the catalog plus one (R22). -/
def Catalog.nextStripe (c : Catalog) : Option Nat := c.extents.getLast?.map fun e => e.firstStripe + e.stripes

/-- A session ends at the Catalog Engine: reservations are released and the append point's next stripe number becomes one
more than the catalog's last stripe, or the session's first stripe number when none of its stripes joined (R22). -/
def Catalog.endSession (c : Catalog) (session first : Option Nat) : Catalog :=
  let joined := c.extents.any fun e => some e.session == session
  let next := match first with
    | some f => if joined then c.nextStripe.getD f else f
    | none => c.append.stripe
  { c with reservations := [], reports := [], confirmed := [], append := { c.append with stripe := next } }

/-! ### Cutting -/

/-- The extent holding the last kept stripe, trimmed (R25): `seg` is the last segment when the kept stripe is the location's
own. -/
def Extent.trim (e : Extent) (lastKept c : Nat) (seg : Option Int) : Extent :=
  let stripes := lastKept + 1 - e.firstStripe
  let blocks := c - e.firstBlock
  if stripes = e.stripes ∧ blocks = e.blocks then e
  else
    let last := seg.getD e.last
    let span := (last - e.first).natAbs + 1
    let gaps := min e.gaps (span - stripes)
    { e with
      stripes := stripes, blocks := blocks, last := last, gaps := gaps, rewrites := span - stripes - gaps,
      raw := e.raw * blocks / e.blocks, stored := e.stored * blocks / e.blocks, markers := min e.markers blocks }

/-- The cut at block c with the location of c's header: stripe `n`, its address, whether the header begins at offset 0
(R25). -/
def Catalog.cutAt (c : Catalog) (block : Nat) (loc : Location) : Catalog :=
  let n := loc.stripe
  let here : SegAddr := { wrap := loc.wrap, seg := loc.seg }
  let kept := (c.extents.filter fun e => if loc.atZero then decide (e.firstStripe < n) else decide (e.firstStripe ≤ n))
  let trimmed := match kept.getLast? with
    | none => []
    | some e => kept.dropLast ++ [e.trim (if loc.atZero then n - 1 else n) block (if loc.atZero then none else some loc.seg)]
  let after : SegAddr := if loc.atZero then here else here.next
  { c with
    extents := trimmed, blockCount := block, markerCount := (trimmed.map Extent.markers).sum, dirty := true
    append := { wrap := after.wrap, seg := after.seg, stripe := if loc.atZero then n else n + 1 } }

/-- A cut at 0 empties the table and sets the append point to the first data segment (R25). -/
def Catalog.cutAll (c : Catalog) : Catalog :=
  { c with extents := [], blockCount := 0, markerCount := 0, dirty := true, append := { wrap := 0, seg := 16, stripe := 0 } }

/-- The cut of R25 at block c, by the Current Block location; at block count there is none to make. -/
def Catalog.cut (c : Catalog) (block : Nat) : Catalog :=
  if block = 0 then c.cutAll
  else match c.location with
    | some loc => c.cutAt block loc
    | none => c

end Sys2Proof.Machine
end

