-- ==== Sys2Proof/Machine/EngineOps.lean ====
section
/-! DEFINITION. The Compression Engine's shared operations: match search and tokens (R107, R108), the stored form (R109),
placement and the stripe account (R90, R91, R110, R111), expansion and its checks (R114). -/

namespace Sys2Proof.Machine

/-! ### Compressing -/

/-- The number of leading bytes that two lists share, at most `n`. -/
def commonLen : Nat → List Byte → List Byte → Nat
  | n + 1, a :: as, b :: bs => if a = b then commonLen n as bs + 1 else 0
  | _, _, _ => 0

/-- The match length at offset d of position p: at most 18, the source overlapping the bytes matched where d is small
(R107). -/
def matchLen (bs : List Byte) (p d : Nat) : Nat := commonLen 18 (bs.drop (p - d)) (bs.drop p)

/-- The greatest match length over offsets 1 to `limit`, with its smallest offset (R107). -/
def bestMatch (bs : List Byte) (p limit : Nat) : Nat × Nat :=
  (List.range limit).foldl
    (fun best i => let m := matchLen bs p (i + 1); if best.1 < m then (m, i + 1) else best) (0, 0)

/-- A literal run's token (R108). -/
def literalRun (lits : List Byte) : List Byte :=
  match lits with
  | [] => []
  | _ => BitVec.ofNat 8 (lits.length - 1) :: lits

/-- A match's token (R108). -/
def matchToken (m d : Nat) : List Byte :=
  [BitVec.ofNat 8 (0x80 + (m - 3) * 8 + (d - 1) / 256), BitVec.ofNat 8 ((d - 1) % 256)]

/-- The token stream length: emitted tokens, and a pending run as 1 plus its count (R108). -/
def streamLength (tokens literals : List Byte) : Nat := tokens.length + (literalRun literals).length

/-- The block's bytes that the ring holds so far, `rawLen` of them at most. -/
def BlockRecord.arrived (b : BlockRecord) (ring : List Byte) : List Byte := ring.take b.rawLen

/-- One position encoded: a match of 3 or more, or a literal; 128 literals are emitted at once; the block is decided RAW
when the stream length reaches the raw length (R107 to R109). -/
def BlockRecord.encodeOne (b : BlockRecord) (bs : List Byte) : BlockRecord :=
  let best := bestMatch bs b.next (min 2048 b.next)
  let c :=
    if 3 ≤ best.1 then
      { b with next := b.next + best.1, literals := [], tokens := b.tokens ++ literalRun b.literals ++ matchToken best.1 best.2 }
    else
      let lits := b.literals ++ [bs.getD b.next 0]
      if lits.length = 128 then { b with next := b.next + 1, literals := [], tokens := b.tokens ++ literalRun lits }
      else { b with next := b.next + 1, literals := lits }
  if b.rawLen ≤ streamLength c.tokens c.literals then { c with raw := true, tokens := [], literals := [] } else c

/-- The engine reads on as far as the arrived bytes allow: a position waits until the bytes its longest match could use are
there (R106); a block decided RAW is read for its CRC alone (R109). -/
def BlockRecord.encode : Nat → List Byte → BlockRecord → BlockRecord
  | 0, _, b => b
  | fuel + 1, bs, b =>
    if b.raw || !b.tryCompress then { b with next := bs.length }
    else if b.rawLen ≤ b.next ∨ bs.length < min (b.next + 18) b.rawLen then b
    else BlockRecord.encode fuel bs (b.encodeOne bs)

/-- The stored form and header of a block whose raw bytes have all been read, and its entry into PLACING (R109). -/
def BlockRecord.finish (b : BlockRecord) (bs : List Byte) : BlockRecord :=
  let tokens := b.tokens ++ literalRun b.literals
  let asRaw := b.raw || !b.tryCompress
  let stored := if b.isMarker then [] else if asRaw then bs else tokens
  let flags := if b.isMarker then flagMarker else if asRaw then flagRaw else flagCompressed
  let crc : Word32 := if b.isMarker then 0 else crcFinish b.crc
  let h := BlockHeader.make b.number b.rawLen stored.length flags crc
  { b with phase := .placing, tokens := tokens, literals := [], storedLen := stored.length, rest := h.bytes ++ stored,
           headerPlaced := false }

/-- The block record run over the bytes in the ring (R106 to R109): the CRC takes the bytes newly read. -/
def BlockRecord.run (b : BlockRecord) (ring : List Byte) : BlockRecord :=
  match b.phase with
  | .placing => b
  | .compressing =>
    let bs := b.arrived ring
    let c := b.encode (bs.length + 1) bs
    let d := { c with crc := crcRun b.crc ((bs.take c.next).drop b.next) }
    if d.rawLen ≤ d.next then d.finish bs else d

def State.runEngine (s : State) : State :=
  { s with engine := { s.engine with block := s.engine.block.map fun b => b.run s.engine.ring } }

/-- The record an admitted block opens (R106); a marker's goes straight to PLACING. -/
def BlockRecord.opened (number rawLen : Nat) (isMarker tryCompress : Bool) : BlockRecord :=
  let b : BlockRecord :=
    { number := number, rawLen := rawLen, isMarker := isMarker, tryCompress := tryCompress, phase := .compressing, next := 0,
      literals := [], tokens := [], raw := false, crc := crcStart, storedLen := 0, rest := [], headerPlaced := false }
  if isMarker then b.finish [] else b

/-! ### Placing -/

/-- The account of a slot that opens (R111). -/
def Account.opened (firstPiece : Nat) : Account :=
  { firstPiece := firstPiece, firstOffset := none, starts := 0, markers := 0, ending := [] }

/-- A header placed at an offset (R111). -/
def Account.placeHeader (a : Account) (offset : Nat) (isMarker : Bool) : Account :=
  { a with firstOffset := some (a.firstOffset.getD offset), starts := a.starts + 1,
           markers := a.markers + (if isMarker then 1 else 0) }

/-- A FILLING slot closes and becomes READY (R91); its fill timer stops (R92). -/
def State.closeFilling (s : State) : State :=
  match s.fillingSlot with
  | none => s
  | some i =>
    let s1 := s.modifySlot i fun t => { t with state := .ready, planned := false }
    { s1 with queue := { s1.queue with fillTimer := false } }

/-- The next stripe number of the session (R90). -/
def State.nextStripeNumber (s : State) : Nat :=
  if s.writer.opened then (s.writer.highestStripe.getD 0) + 1 else s.catalog.append.stripe

/-- The largest stripe number: no stripe is given a number beyond the last segment (R4). -/
def lastStripeNumber : Nat := 4095983

/-- The lowest FREE slot opens as FILLING with the next stripe number of the session; the fill timer starts (R90, R92), the
append point's next stripe number goes on (R22). Nothing when no slot is FREE or the stripe numbers are spent (R4). -/
def State.openFilling (s : State) (block : Nat) : Option State :=
  (if lastStripeNumber < s.nextStripeNumber then none else s.lowestFree).map fun i =>
    let n := s.nextStripeNumber
    let s1 := s.modifySlot i fun _ =>
      { Slot.empty with state := .filling, stripe := some n, account := some (Account.opened block) }
    { s1 with
      queue := { s1.queue with fillTimer := true }
      writer := { s1.writer with opened := true, highestStripe := some n }
      catalog := { s1.catalog with append := { s1.catalog.append with stripe := n + 1 } } }

/-- Bytes placed at the FILLING slot's fill; the header, when it stands first in them, enters the account; the bytes count as
stored placed (R90, R111, R116). -/
def State.placeBytes (s : State) (i : Nat) (bytes : List Byte) (withHeader isMarker : Bool) : State :=
  let s1 := s.modifySlot i fun t =>
    { t with
      payload := t.payload ++ bytes
      account := t.account.map fun a => if withHeader then a.placeHeader t.payload.length isMarker else a }
  { s1 with engine := { s1.engine with
      meter := { s1.engine.meter with placed := satAdd max32 s1.engine.meter.placed bytes.length } } }

/-- The placement of the block in PLACING as far as slots allow: a header with fewer than 16 bytes left closes the slot, a
full slot closes, the rest continues in the next slot; without a FREE slot the placement waits (R90, R91, R110). Each
turn closes a slot, opens one, or places a piece: five are enough for two pieces. -/
def State.placeRun : Nat → State → State
  | 0, s => s
  | fuel + 1, s =>
    match s.engine.block with
    | none => s
    | some b =>
      if b.rest = [] then s
      else
        match s.fillingSlot with
        | none =>
          match s.openFilling b.number with
          | none => s
          | some s1 => State.placeRun fuel s1
        | some i =>
          let room := Config.payloadSize - (s.slot i).fill
          if !b.headerPlaced && decide (room < 16) then State.placeRun fuel s.closeFilling
          else
            let piece := b.rest.take room
            let s1 := s.placeBytes i piece (!b.headerPlaced) b.isMarker
            let s2 := { s1 with engine := { s1.engine with
              block := some { b with rest := b.rest.drop room, headerPlaced := true } } }
            let s3 := if (s2.slot i).fill = Config.payloadSize then s2.closeFilling else s2
            State.placeRun fuel s3

/-- The ending-block entry of a block joins the account of the slot holding its last stored byte: the slot of the highest
stripe number (R110, R111). -/
def State.addEnding (s : State) (b : BlockRecord) : State :=
  match s.findSlot fun t => t.isWrite && (t.stripe == s.writer.highestStripe) with
  | none => s
  | some i =>
    s.modifySlot i fun t =>
      { t with account := t.account.map fun a =>
          { a with ending := a.ending ++
              [{ number := b.number, rawLen := b.rawLen, storedLen := b.storedLen, isMarker := b.isMarker }] } }

/-- The acceptance of the block in hand (R110): Current Block rises (R18), the ring is released, the meter counts, the account
takes its entry, the request counts it, the block record closes. -/
def State.acceptBlock (s : State) (b : BlockRecord) : State :=
  let s1 := s.addEnding b
  { s1 with
    catalog := { s1.catalog with current := s1.catalog.current + 1, location := none }
    engine := { s1.engine with
      block := none, ring := s1.engine.ring.drop b.rawLen
      meter := { s1.engine.meter with rawAccepted := satAdd max32 s1.engine.meter.rawAccepted b.rawLen } }
    writer := { s1.writer with accepted := s1.writer.accepted + 1 } }

/-- The stages are emptied: the block in hand and every block behind it are lost, the port is IDLE (R95, R97, R112). -/
def State.emptyStages (s : State) : State :=
  { s with
    engine := { s.engine with block := none, ring := [] }
    port := { Port.idle with wordOut := s.port.wordOut } }

/-! ### Expanding -/

/-- What expanding stored bytes gives: the output so far and the bytes of a token not yet whole, or a failed check with the bytes
behind its token. -/
inductive Expansion where
  | fault (behind : List Byte)
  | output (out pending : List Byte)
  deriving DecidableEq, Repr

/-- Copies m bytes beginning d bytes before the end of the output, byte by byte (R114). -/
def copyBack : Nat → Nat → List Byte → List Byte
  | 0, _, out => out
  | m + 1, d, out => copyBack m d (out ++ [out.getD (out.length - d) 0])

/-- Expands the stored bytes taken so far token by token, `left` of the block's stored bytes still to come (R114, checks 1 to
3). A token cut by what has been taken waits. -/
def expandTokens (rawLen left : Nat) : Nat → List Byte → List Byte → Expansion
  | 0, bs, out => .output out bs
  | fuel + 1, bs, out =>
    match bs with
    | [] => .output out []
    | t :: more =>
      let size := if t.toNat < 128 then t.toNat + 2 else 2
      if bs.length + left < size then .fault []
      else if bs.length < size then .output out bs
      else if t.toNat < 128 then
        let lits := more.take (t.toNat + 1)
        if rawLen < out.length + lits.length then .fault (more.drop (t.toNat + 1))
        else expandTokens rawLen left fuel (more.drop (t.toNat + 1)) (out ++ lits)
      else
        let m := t.toNat / 8 % 16 + 3
        let d := t.toNat % 8 * 256 + (more.getD 0 0).toNat + 1
        if out.length < d ∨ rawLen < out.length + m then .fault (more.drop 1)
        else expandTokens rawLen left fuel (more.drop 1) (copyBack m d out)

/-- The stored bytes of a block expanded, or copied when it is RAW (R114, checks 1 to 3). -/
def expandStored (h : BlockHeader) (taken : List Byte) : Expansion :=
  if h.flags = flagCompressed then expandTokens h.rawLen (h.storedLen - taken.length) (taken.length + 1) taken []
  else .output taken []

/-- How many of the stored bytes at hand are taken: those up to the first token that fails, with its own, or all (R114). DESIGN CHOICE (log
84): the bytes of the failing token count as taken. -/
def bytesTaken (h : BlockHeader) (stored : List Byte) : Nat :=
  match expandStored h stored with
  | .fault behind => stored.length - behind.length
  | .output _ _ => stored.length

/-- A block whose stored bytes have been taken as far as they are there: its output, or a failed check (R114); checks 4 and 5 are made
when every stored byte has been taken. -/
def expandBlock (h : BlockHeader) (taken : List Byte) : Option (List Byte) :=
  match expandStored h taken with
  | .fault _ => none
  | .output out _ =>
    if h.storedLen - taken.length = 0 then
      if out.length = h.rawLen ∧ crc32 out = h.crc then some out else none
    else some out

end Sys2Proof.Machine
end

