-- ==== Sys2Proof/Machine/WriteOps.lean ====
section
/-! DEFINITION. The Write Controller's shared operations: responses (R122), WRITE plans and reservations (R91, R124), verdicts
(R126), session faults and discards (R95, R129, R130), session ends and their reports (R131, R135), early warning (R136). -/

namespace Sys2Proof.Machine

/-! ### Queries -/

/-- Requests that write (R120). -/
def Op.isWrite : Op → Bool
  | .writeBlocks _ => true | .writeMarkers _ => true | _ => false

/-- A write request is the outstanding operation. -/
def State.writeOutstanding (s : State) : Bool := (s.op.map Op.isWrite).getD false

def State.sessionOpen (s : State) : Bool := s.writer.session.isSome

/-- Writing has ended (R129). -/
def State.writingEnded (s : State) : Bool := (s.writer.fault.map SessionFault.ended).getD false

/-- The lowest stripe among the slots `p` names. -/
def State.lowest (s : State) (p : Slot → Bool) : Option Nat := (lowestStripe s.queue.slots p).map Prod.snd

def Slot.isReady (t : Slot) : Bool := t.state == .ready
def Slot.isInFlight (t : Slot) : Bool := t.state == .inFlight

/-- Some slot is READY or IN_FLIGHT. -/
def State.unwritten (s : State) : Bool := s.queue.slots.any fun t => t.isReady || t.isInFlight

/-- The append point's segment. -/
def State.appendSegment (s : State) : SegAddr := { wrap := s.catalog.append.wrap, seg := s.catalog.append.seg }

/-- The resume segment of the write session: the segment after the last copy segment, or the append point's (R124). -/
def State.resumeSegment (s : State) : SegAddr :=
  match s.writer.lastCopy with
  | some a => a.next
  | none => s.appendSegment

/-- The last segment begun in the stream: the counter's, or past it by the boundaries that a mark has carried the counter back over
(R71). -/
def State.begunSegment (s : State) : SegAddr :=
  let p := s.transport.pos
  { wrap := p.wrap, seg := p.seg + s.transport.unhanded * recStep p.wrap }

/-- The segment that a plan now loaded into the standby slot would govern: the stream's first while the run-up lasts, the new
wrap's first in a turnaround, else the segment after the last one begun (R74, R78, R81). -/
def State.nextSegment (s : State) : SegAddr :=
  let p := s.transport.pos
  match s.transport.state with
  | .turnaround =>
    if evenWrap p.wrap && decide (63999 < p.seg) || !evenWrap p.wrap && decide (p.seg < 0) then
      { wrap := p.wrap + 1, seg := firstSeg (p.wrap + 1) }
    else { wrap := p.wrap, seg := firstSeg p.wrap }
  | _ => s.transport.startAt.getD s.begunSegment.next

/-! ### Early warning and responses -/

/-- The remaining distance is at or below the early-warning distance (R136). -/
def State.nearEnd (s : State) : Bool := decide (remainingDistance s.catalog.append ≤ s.settings.earlyDistance)

/-- One evaluation of the early-warning condition in a session: the attention is raised at the first that finds it (R136). -/
def State.evaluateWarning (s : State) : State :=
  if s.sessionOpen && !s.writer.warned && s.nearEnd then
    { s with writer := { s.writer with warned := true } }.raise .earlyWarning
  else s

/-- A write request ends: its response (R122), the port IDLE (R104), BEHIND when a session is open, IDLE otherwise, FAILED kept
(R119). DESIGN CHOICE (log 37): blocks accepted keeps the request's count until the next write request is taken or the session
ends, and in IDLE, when a FAILED session's end has answered the request, until the next write request or RESET DRIVE; R118 and R135
speak of it only under a request to be answered. -/
def State.endWrite (s : State) (code : Code) (report : Option FaultReport) : State :=
  let s1 := s.endOp code (.written s.writer.accepted s.catalog.current s.catalog.blockCount report)
  { s1 with
    port := { Port.idle with wordOut := s1.port.wordOut }
    writer := { s1.writer with
      requested := 0, refusal := none
      state := match s1.writer.state with
        | .accepting => if s1.sessionOpen then .behind else .idle
        | w => w } }

/-- What follows an acceptance: an ABORT ends the request with the stages emptied (R112, R123); the n-th acceptance sends the
response (R122); a refusal met earlier ends it (R105, R122). -/
def State.afterAcceptance (s : State) : State :=
  if s.writeOutstanding then
    if s.opPhase = some .aborting then s.emptyStages.endWrite .aborted none
    else if s.writer.requested ≤ s.writer.accepted then
      let s1 := s.evaluateWarning
      s1.endWrite (if s1.nearEnd then .earlyWarning else .ok) none
    else match s.writer.refusal with
      | some code => s.emptyStages.endWrite code none
      | none => s
  else s

/-- A block wholly placed is accepted (R110). -/
def State.acceptPlaced (s : State) : State :=
  match s.engine.block with
  | some b => if b.phase = .placing ∧ b.headerPlaced = true ∧ b.rest = [] then (s.acceptBlock b).afterAcceptance else s
  | none => s

/-! ### Session faults -/

/-- The discard of R95 from stripe n: every WRITE slot at or above it becomes FREE, a plan of such a slot leaves the standby
slot, its copies are reported again as gaps (R124), and the block in hand and the blocks behind it are lost (R112). -/
def State.discard (s : State) (n : Nat) : State :=
  let hit (t : Slot) : Bool := t.isWrite && (match t.stripe with | some k => decide (n ≤ k) | none => false)
  let filling := s.queue.slots.any fun t => hit t && (t.state == .filling)
  let standby := match s.transport.standby with
    | some (.write i a b) => if hit (s.slot i) then none else some (.write i a b)
    | p => p
  let s1 := (s.freeSlotsWhere hit).emptyStages
  { s1 with
    transport := { s1.transport with standby := standby }
    queue := { s1.queue with fillTimer := s1.queue.fillTimer && !filling }
    catalog := { s1.catalog with
      reports := discardReports s1.catalog.reports n
      confirmed := s1.catalog.confirmed.filter fun p => decide (p.1 < n) } }

/-- A session fault (R129), or a further one (R130): the fault field, FAILED, and the discard from its point. A write request
whose ABORT waited for the block in PLACING ends now, since that block is lost (R112). -/
def State.sessionFault (s : State) (code : Code) (point : Nat) (ended : Bool) : State :=
  let f : SessionFault := match s.writer.fault with
    | none => { code := code, point := point, further := 0, ended := ended }
    | some f => { f with further := satAdd 255 f.further 1, point := min f.point point, ended := f.ended || ended }
  let s1 := { s with writer := { s.writer with fault := some f, state := .failed, refusal := none } }
  let s2 := s1.discard f.point
  if s2.writeOutstanding && (s2.opPhase == some .aborting) then s2.endWrite .aborted none else s2

/-- While writing has ended, a stripe below the discard point that is READY lowers the point to it, with the discard from it
(R130). -/
def State.lowerPoint (s : State) : State :=
  match s.writer.fault, s.lowest Slot.isReady with
  | some f, some n =>
    if f.ended then
      ({ s with writer := { s.writer with fault := some { f with point := min f.point n } } }).discard n
    else s
  | _, _ => s

/-! ### Session ends -/

/-- A session's end (R135), steps 1 to 4: WRITE slots still held are freed, reservations and stage slots too, the record
returns to IDLE, the governed stream ends (R162), and a streaming tape is brought to rest at the append point's segment
(R165). DESIGN CHOICE (log 62): a pending step still held is cleared with it. -/
def State.closeSession (s : State) : State :=
  let s1 := if s.owner = some .write then s.demandStop (some s.appendSegment) else s
  let s2 := ((s1.freeSlotsWhere fun t => t.isWrite || (t.state == .intake) || (t.state == .build)).emptyStages)
  { s2 with
    queue := { s2.queue with fillTimer := false }
    catalog := s2.catalog.endSession s2.writer.session s2.writer.firstStripe
    gov := { s2.gov with governed := false }
    transport := { s2.transport with pendingStep := none }
    writer := { Writer.idle with
      deferred := s2.writer.deferred
      requested := if s2.writeOutstanding then s2.writer.requested else 0
      accepted := if s2.writeOutstanding then s2.writer.accepted else 0 } }

/-- Current Block becomes block count with the location absent (R18, R130). -/
def State.currentToEnd (s : State) : State :=
  { s with catalog := { s.catalog with current := s.catalog.blockCount, location := none } }

/-- The taker of a failed session's fault report (R131). -/
def State.deliverReport (s : State) (r : FaultReport) : State :=
  match s.op, s.opPhase with
  | some (.writeBlocks _), _ => s.endWrite r.code (some r)
  | some (.writeMarkers _), _ => s.endWrite r.code (some r)
  | some .flush, _ => s.endOp r.code (.report r)
  | some .unload, some .flushing =>
    { s with medium := { s.medium with flushFault := some r } }.setPhase .flushed
  | some _, some .flushing => s.endOp r.code (.report r)
  | _, _ => { s with writer := { s.writer with deferred := some r } }.raise .deferredError

/-- The end of a FAILED session: its report is made up and goes to its taker (R130, R131). -/
def State.endFailed (s : State) : State :=
  match s.writer.fault with
  | none => s
  | some f =>
    let r : FaultReport :=
      { code := f.code, firstLost := s.catalog.blockCount, lost := s.catalog.current - s.catalog.blockCount,
        further := f.further }
    s.closeSession.currentToEnd.deliverReport r

/-- The end of a FLUSHING session: FLUSH ends with OK (R133); a flush phase is over (R134). -/
def State.endFlushed (s : State) : State :=
  let s1 := s.closeSession.currentToEnd
  match s1.op, s1.opPhase with
  | some .flush, _ => s1.endOp .ok .none
  | some _, some .flushing => s1.setPhase .flushed
  | _, _ => s1

/-- The session ends when its state's condition holds (R119): FAILED with no WRITE slot, FLUSHING with no READY and no
IN_FLIGHT slot. -/
def State.trySessionEnd (s : State) : State :=
  match s.writer.state with
  | .failed => if s.queue.slots.any Slot.isWrite then s else s.endFailed
  | .flushing => if s.unwritten then s else s.endFlushed
  | _ => s

/-! ### Checks not taken and verdicts -/

/-- The slot that a flight's verdict is for, when it is still in flight with that copy (R94, R95). -/
def State.flightSlot (s : State) (f : Flight) : Option Nat :=
  match f.slot with
  | none => none
  | some i =>
    let t := s.slot i
    if t.state = .inFlight ∧ t.stripe = some f.stripe ∧ t.copies = f.copy then some i else none

/-- One check not taken: READY for another copy, or at copy count 3 a WRITE_FAILED fault (R94, R129). -/
def State.checkNotTaken (s : State) (f : Flight) : State :=
  match s.flightSlot f with
  | none => s
  | some i =>
    if (s.slot i).copies < 3 then
      (s.modifySlot i fun t => { t with state := .ready, copies := t.copies + 1, planned := false })
    else s.sessionFault .writeFailed f.stripe false

/-- The checks still due are not taken: motion stopped before them (R94, R125). -/
def State.checksNotTaken (s : State) : State :=
  let s1 := s.tape.flights.foldl State.checkNotTaken { s with tape := { s.tape with flights := [] } }
  s1.lowerPoint

/-- The verdicts of R126. -/
inductive Verdict where
  | confirmed | rewrite | failed
  deriving DecidableEq, Repr

/-- The verdict on a copy from its counted FAIL tracks (R126). -/
def verdictOf (threshold f copies : Nat) : Verdict :=
  if f < threshold then .confirmed else if copies < 3 then .rewrite else .failed

/-- The queue takes a verdict (R94): a confirmed slot's account goes to the catalog (R21). A permanent failure leaves the slot
IN_FLIGHT for the discard. -/
def State.applyVerdict (s : State) (i : Nat) (v : Verdict) (fails : Nat) : State :=
  match v with
  | .confirmed =>
    let t := s.slot i
    let s1 := s.freeSlot i
    match t.stripe, t.account, s.writer.session with
    | some n, some a, some session => { s1 with catalog := s1.catalog.confirm session n a }
    | _, _, _ => s1
  | .rewrite =>
    s.modifySlot i fun t => { t with state := .ready, copies := t.copies + 1, planned := false, failedTracks := fails }
  | .failed => s.modifySlot i fun t => { t with failedTracks := fails }


/-! ### Plans -/

/-- Segment `a` lies at least three segments downstream of every copy of stripe n that the session has written (R11). -/
def State.spaced (s : State) (n : Nat) (a : SegAddr) : Bool :=
  s.catalog.reports.all fun r => match r.copy with
    | some (m, _) => (m != n) || decide (ordinal r.addr + 3 ≤ ordinal a)
    | none => true

/-- The slot, stripe and copy of the next WRITE plan: the first READY slot whose planned mark is clear (R91). -/
def State.nextWrite (s : State) : Option (Nat × Nat × Nat) :=
  (lowestStripe s.queue.slots fun t => t.isReady && !t.planned).map fun p => (p.1, p.2, (s.slot p.1).copies)

/-- The reservation that copy 0 of a stripe needs on a wrap other than that of the open extent (R22, R124); none when it is
refused (R24). -/
def State.reserveFor (s : State) (copy : Nat) (a : SegAddr) : Option State :=
  if copy = 0 ∧ s.writer.openWrap ≠ some a.wrap then
    (s.catalog.reserve s.writer.session a.wrap (firstSeg a.wrap)).map fun c =>
      { s with catalog := c, writer := { s.writer with openWrap := some a.wrap } }
  else some s

/-- The Write Controller loads the standby slot, unless writing has ended, no READY slot waits, no segment is left (R124, R129),
or the segment lies too near to the stripe's last copy, when it takes the default GAP (R11). A refused reservation is the
session fault CATALOG_FULL for the stripe (R24). -/
def State.offerWrite (s : State) : State :=
  if s.writingEnded || s.transport.standby.isSome || atEndOfArea s.nextSegment then s
  else match s.nextWrite with
    | none => s
    | some (i, n, k) =>
      if s.spaced n s.nextSegment then
        match s.reserveFor k s.nextSegment with
        | none => s.sessionFault .catalogFull n false
        | some s1 =>
          let s2 := s1.modifySlot i fun t => { t with planned := true }
          { s2 with transport := { s2.transport with standby := some (.write i n k) } }
      else s

/-- A stop that ends the stream is under way: no boundary of it makes a plan active any more (R82, R83). -/
def Stop.ends : Stop → Bool
  | .immediate => true | .endOfArea => true | _ => false

/-- The pending step is taken into an empty standby slot while streaming (R75). DESIGN CHOICE (log 51): so also in a re-acquisition,
where no boundary makes its ACQUIRING plan active (R77); the stream that follows drops it, beginning at the Governor's step. -/
def State.takePending (s : State) : State :=
  match s.transport.state, s.transport.standby, s.transport.pendingStep with
  | .streaming, none, some p =>
    if s.transport.stop.ends then s
    else if p = s.transport.step then { s with transport := { s.transport with pendingStep := none } }
    else { s with transport := { s.transport with pendingStep := none, standby := some (.acquiring p) } }
  | _, _, _ => s

/-! ### Flights -/

/-- The stripe header that the Tape Channel writes for a slot's copy at a segment (R8, R11, R124). -/
def State.headerFor (s : State) (i copy : Nat) (a : SegAddr) : StripeHeader :=
  let t := s.slot i
  let acct := t.account.getD (Account.opened 0)
  { stripe := t.stripe.getD 0, session := s.writer.session.getD 0, firstPiece := acct.firstPiece,
    firstOffset := acct.firstOffset, copy := copy, used := t.fill, wrap := a.wrap, seg := a.seg, isData := true,
    starts := acct.starts, markers := acct.markers }

/-- The three conditions of the write gate (R76). -/
def State.gateOpens (s : State) : Bool :=
  (s.transport.synth == .locked) && (s.transport.lockedStep == s.transport.step) && (s.transport.state == .streaming)
    && decide (deadCount s.head.table < 2)

/-- The gate test of the active WRITE plan at the boundary that begins segment `a`: the flight, its report and the last copy
segment (R76, R93, R118, R124), or a plan refused. DEDUCED (log 20): a copy's report is made as its writing begins, a writing
cut short included; nothing of the catalog can take it before its check. -/
def State.beginWriting (s : State) (a : SegAddr) : State :=
  match s.transport.active with
  | some (.write i n k) =>
    if s.gateOpens then
      let h := s.headerFor i k a
      let s1 := s.modifySlot i fun t => { t with state := .inFlight, planned := false, copies := k }
      let flight : Flight := { addr := a, slot := some i, stripe := n, copy := k, underrun := false }
      { s1 with
        tape := { s1.tape with
          gate := true, writing := some h
          flights := s1.tape.flights ++ [flight] }
        writer := { s1.writer with lastCopy := some a }
        catalog := { s1.catalog with
          reports := addReport s1.catalog.reports { addr := a, copy := some (n, k) } } }
    else s.modifySlot i fun t => { t with planned := false }
  | _ => s

/-- A copy of the session has been written whole in segment `a`: the append point advances (R22), and the early-warning condition
is evaluated (R136). A copy cut short by RESET DRIVE, a stall or a loss stays downstream of the append point (R13; DEDUCED, log 20). -/
def State.copyWritten (s : State) (a : SegAddr) : State :=
  let after := a.next
  { s with catalog := { s.catalog with append := { s.catalog.append with wrap := after.wrap, seg := after.seg } } }.evaluateWarning

/-- The copy that the gate has just opened for is cut short by the stop of a permanent failure: the append point follows it like every
copy written with the gate open (R22, R124; DEDUCED, log 20). -/
def State.copyCutShort (s : State) : State :=
  match s.transport.active with
  | some (.write _ _ _) => if s.tape.gate then s.copyWritten s.transport.pos.addr else s
  | _ => s

/-- A permanent failure's session fault, with its immediate stop (R129): the checks it cuts off are not taken (R130). -/
def State.permanentFailure (s : State) (stripe : Nat) : State :=
  (((s.sessionFault .writeFailed stripe false).copyCutShort).immediateStop).checksNotTaken

/-- A segment of the session's run that ended without a copy written in it is reported as a gap (R124). -/
def State.reportGap (s : State) (a : SegAddr) : State :=
  { s with catalog := { s.catalog with reports := addReport s.catalog.reports { addr := a, copy := none } } }

/-- Two or more elements DEAD at a boundary with a slot READY or FILLING: the session fault HEAD_FAULT (R129). -/
def State.headFaultTest (s : State) : State :=
  if s.sessionOpen && !s.writingEnded && decide (2 ≤ deadCount s.head.table) then
    match s.lowest fun t => t.isReady || (t.state == .filling) with
    | some n => s.sessionFault .headFault n true
    | none => s
  else s

/-- The queue holds nothing to write or check: a controlled stop is demanded at the resume segment (R165). -/
def State.writeStopTest (s : State) : State :=
  if s.sessionOpen && !s.writingEnded && !s.unwritten then s.demandStop (some s.resumeSegment) else s

/-- The restart condition of R166. -/
def State.writeRestartDue (s : State) : Bool :=
  let ready := s.countState .ready
  s.sessionOpen && !s.writingEnded &&
    (decide (s.settings.restartThreshold ≤ ready)
      || (s.writer.state == .flushing && decide (0 < ready))
      || (s.writer.state == .failed && decide (0 < ready)))

/-- END_OF_MEDIUM with stripes still to write: the discard point is the lowest READY or FILLING stripe (R129, R137).
DESIGN CHOICE (log 60): with a FILLING slot and no READY one the test waits until a slot is READY. -/
def State.endOfMediumTest (s : State) : State :=
  if s.sessionOpen && !s.writingEnded then
    match s.lowest Slot.isReady, s.lowest fun t => t.isReady || (t.state == .filling) with
    | some _, some n => s.sessionFault .endOfMedium n true
    | _, _ => s
  else s

/-- A block in PLACING needs a stripe number when none is left (R4) and nothing of the session remains to be written or checked:
the session has a stripe to write and no segment left for it, END_OF_MEDIUM (R129, R137). DESIGN CHOICE (log 36): the discard
point is the number that R4 denies. -/
def State.numbersSpentTest (s : State) : State :=
  let waits := match s.engine.block with | some b => (b.phase == .placing) && !b.rest.isEmpty | none => false
  if waits && s.sessionOpen && !s.writingEnded && s.fillingSlot.isNone && !s.unwritten
      && decide (lastStripeNumber < s.nextStripeNumber) then
    (s.sessionFault .endOfMedium s.nextStripeNumber true).trySessionEnd
  else s

/-- A motion fault of the write stream: a session fault from the lowest READY or IN_FLIGHT stripe (R129). DEDUCED (log 38): the
checks that the fault cuts off are dropped with its discard, and only the motion fault is counted. -/
def State.writeMotionFault (s : State) (code : Code) : State :=
  match s.lowest fun t => t.isReady || t.isInFlight with
  | some n => if s.sessionOpen then (s.sessionFault code n true).trySessionEnd else s
  | none => s

end Sys2Proof.Machine
end

