-- ==== Sys2Proof/Machine/ReadOps.lean ====
section
/-! DEFINITION. The Read Controller's shared operations: the read-ahead's planning (R142, R144, R167), segment outcomes and
searches (R143, R146), retries (R147), the walk and the drain (R99, R113, R114), delivery (R115, R145) and the ends of a READ
BLOCKS (R148 to R151). -/

namespace Sys2Proof.Machine

/-! ### Slots of the read direction -/

/-- The highest-numbered DECODED slot (R96, R99), by the stripe number that it holds (DEDUCED, log 80). -/
def highestDecoded (slots : List Slot) : Option Nat :=
  (((List.range slots.length).filterMap fun i =>
      let t := slotAt slots i
      if t.state == .decoded then t.stripe.map fun n => (i, n) else none).foldl
    (fun best x => match best with
      | none => some x
      | some y => if y.2 < x.2 then some x else some y) none).map Prod.fst

/-- A plan whose slot has been freed goes on with no slot: its outcome is disregarded when it arrives (R100). -/
def unbind (p : Option Plan) : Option Plan :=
  match p with
  | some (.read _) => some (.read Config.slotCount)
  | q => q

/-- Every READ slot becomes FREE at once; the outcomes of plans already made are disregarded (R100). -/
def State.freeReads (s : State) : State :=
  let s1 := s.freeSlotsWhere Slot.isRead
  { s1 with transport := { s1.transport with active := unbind s1.transport.active, standby := unbind s1.transport.standby } }

/-- The engine's walk stops, and OUTFLOW is emptied (R117, R148). -/
def State.stopWalk (s : State) : State := { s with engine := { s.engine with walk := none, outflow := [] } }

/-- The read-ahead ends: READ slots freed, searches emptied, a stop naming no resume segment of its stream or of the locate motion
toward one (R148, R151), the governed stream over (R162). DESIGN CHOICE (log 62): a pending step still held is cleared with it. With `late`, the state becomes IDLE when the stream has reached rest (R148): till then it shows AHEAD with
nothing to drain. -/
def State.endReadAhead (s : State) (late : Bool) : State :=
  let mine := s.transport.motion.streamOwner == some .read
  let s1 := (if mine then s.demandHalt else s).freeReads.stopWalk
  let s2 := { s1 with
    reader := { Reader.idle with
      overlapRaised := s1.reader.overlapRaised
      state := if late && mine && s1.transport.state.moving then .ahead else .idle } }
  if s.reader.state = .idle then s2
  else { s2 with
    gov := { s2.gov with governed := s2.gov.governed && s2.sessionOpen }
    transport := { s2.transport with pendingStep := none } }

/-- What a write request, LOCATE, RETIRE FROM, SCAN HEAD, UNLOAD or SPACE does with the read-ahead it finds (R100, R151,
R152). -/
def State.dropReadAhead (s : State) : State :=
  if s.reader.state = .idle then s.freeReads else s.endReadAhead false

/-! ### Searches -/

def State.searchFor (s : State) (n : Nat) : Option Search := s.reader.searches.find? fun e => e.stripe == n

/-- The searches in increasing stripe-number order (R139). -/
def insertSearch (e : Search) : List Search → List Search
  | [] => [e]
  | x :: xs => if e.stripe < x.stripe then e :: x :: xs else x :: insertSearch e xs

def Search.opened (n : Nat) (a : SegAddr) : Search :=
  { stripe := n, opening := a, firstCopy := none, left := 12, retries := 0, copies := [], expired := false, armed := true }

/-- One segment read counted in a search (R146): an unarmed entry takes as its opening segment the first one read after the
restart segment that is not upstream of the old (R147). -/
def Search.count (a : SegAddr) (e : Search) : Search :=
  if e.expired then e
  else if e.armed then { e with left := e.left - 1 }
  else if a.before e.opening then e
  else { e with opening := a, armed := true }

/-- A search whose segments left are 0 is EXPIRED (R146). -/
def Search.expire (e : Search) : Search :=
  if e.left = 0 ∧ e.armed = true then { e with expired := true } else e

/-- A HEADER_ONLY copy met by the search of its stripe (R146). -/
def Search.meetCopy (a : SegAddr) (copy : Nat) (e : Search) : Search :=
  { e with firstCopy := some (e.firstCopy.getD a), copies := if e.copies.contains copy then e.copies else e.copies ++ [copy] }

/-- Stripe n is held in a READ slot that has decoded it. -/
def State.holdsDecoded (s : State) (n : Nat) : Bool :=
  s.queue.slots.any fun t => ((t.state == .decoded) || (t.state == .draining)) && (t.stripe == some n)

/-- The last stripe of the reading extent. -/
def State.lastWanted (s : State) : Nat :=
  match s.reader.extent.bind fun i => s.catalog.extents[i]? with
  | some e => e.firstStripe + e.stripes - 1
  | none => 0

/-- A stripe number and session are wanted (R143). -/
def State.wanted (s : State) (n session : Nat) : Bool :=
  match s.reader.nextDrain with
  | none => false
  | some d =>
    decide (d ≤ n) && decide (n ≤ s.lastWanted) &&
      (match extentOfStripe s.catalog.extents n with
        | some (_, e) => (e.session == session) || (e.merged && decide (session ≤ e.session))
        | none => false)

/-- Stripe n has been decoded in this read-ahead: held, or its slot since reclaimed with no second reading of it under way (R96,
R99, R146). -/
def State.decodedOnce (s : State) (n : Nat) : Bool :=
  s.holdsDecoded n || s.reader.met.any fun m => (m.stripe == n) && m.decodable && !m.again

/-- The searches that a met header of stripe n opens (R146): for each wanted stripe below n neither decoded nor drained, and for n
itself when it read HEADER_ONLY and has not decoded before. -/
def State.openSearches (s : State) (n : Nat) (a : SegAddr) (headerOnly : Bool) : State :=
  let d := s.reader.nextDrain.getD n
  let top := if headerOnly then n + 1 else n
  let fresh := ((List.range (top - d)).map (· + d)).filter fun k =>
    !s.decodedOnce k && (s.searchFor k).isNone
  { s with reader := { s.reader with
      searches := fresh.foldl (fun l k => insertSearch (Search.opened k a) l) s.reader.searches } }

/-- The met copy of a stripe: a HEADER_ONLY one gives way to a decodable one (R143, R145), which alone ends a second reading. -/
def addMet (ms : List Met) (m : Met) : List Met :=
  if ms.any fun x => x.stripe == m.stripe then
    ms.map fun x => if x.stripe == m.stripe then (if !x.decodable && m.decodable then m else { x with again := x.again && !m.decodable }) else x
  else ms ++ [m]

/-- The Current Block location when it names this stripe (R143). -/
def Location.seen (l : Location) (n : Nat) (a : SegAddr) (decodable : Bool) : Location :=
  if l.stripe = n then
    if decodable && l.headerOnly then { l with wrap := a.wrap, seg := a.seg, headerOnly := false }
    else if !decodable && (l.wrap == a.wrap) && (l.seg == a.seg) then { l with headerOnly := true }
    else l
  else l

/-- Every search counts one segment read or passed unread (R146); after a retry's stop is demanded the segments up to its
restart segment, that one included, arm no entry (R147). -/
def State.countSegment (s : State) (a : SegAddr) : State :=
  let waiting := if s.reader.retrying = some a then none else s.reader.retrying
  let count (e : Search) : Search := if s.reader.retrying.isSome && !e.armed then e else e.count a
  { s with reader := { s.reader with searches := s.reader.searches.map count, retrying := waiting } }

def State.expireSearches (s : State) : State :=
  { s with reader := { s.reader with searches := s.reader.searches.map Search.expire } }

/-- A segment that yields nothing, or was passed unread (R85, R142, R146): its slot is freed. -/
def State.readNothing (s : State) (i : Nat) (a : SegAddr) : State :=
  (((if (s.slot i).state = .loading then s.freeSlot i else s).countSegment a)).expireSearches

/-- The outcome of a segment read under a READ plan of the Read Controller into its LOADING slot i (R98, R143, R146). -/
def State.readOutcome (s : State) (i : Nat) (a : SegAddr) (r : SegRead) : State :=
  match r.header with
  | none => s.readNothing i a
  | some h =>
    let n := h.stripe
    if !(s.wanted n h.session) || s.reader.state = .idle then s.readNothing i a
    else
      let dec := r.outcome.decodable
      let s1 := s.countSegment a
      let keep := dec && !s1.holdsDecoded n
      let s2 :=
        if keep then
          s1.modifySlot i fun _ =>
            { Slot.empty with
              state := .decoded, stripe := some n, copies := h.copy, failedTracks := countFails r.fails,
              payload := r.payload, header := some h }
        else s1.freeSlot i
      let s3 := { s2 with
        reader := { s2.reader with
          highestMet := some (max n (s2.reader.highestMet.getD 0))
          met := addMet s2.reader.met { stripe := n, addr := a, decodable := dec, again := false }
          searches := if keep then s2.reader.searches.filter fun e => e.stripe != n else s2.reader.searches }
        catalog := { s2.catalog with location := s2.catalog.location.map fun l => Location.seen l n a dec } }
      let s4 := s3.openSearches n a (!dec)
      let s5 := if dec then s4 else
        { s4 with reader := { s4.reader with
            searches := s4.reader.searches.map fun (e : Search) => if e.stripe == n then e.meetCopy a h.copy else e } }
      s5.expireSearches

/-! ### Planning -/

/-- The slot of the next READ plan: the lowest FREE one, or while a search for next to drain is open the highest DECODED one
reclaimed (R98, R99). -/
def State.takeLoading (s : State) : Option (State × Nat) :=
  match s.takeFree .loading with
  | some x => some x
  | none =>
    if (s.reader.nextDrain.bind s.searchFor).isSome then
      (highestDecoded s.queue.slots).map fun i => (s.modifySlot i fun _ => { Slot.empty with state := .loading }, i)
    else none

/-- Behind the reading extent `e`, at or past its last segment, the copy that the Current Block location names lies further downstream than
`a`, and its stripe, one of `e`, has not decoded in this read-ahead (R18, R141). -/
def State.seeksLocation (s : State) (e : Extent) (a : SegAddr) : Bool :=
  match s.catalog.location with
  | some l => a.before { wrap := l.wrap, seg := l.seg } && decide (e.firstStripe ≤ l.stripe)
      && decide (l.stripe < e.firstStripe + e.stripes) && !s.decodedOnce l.stripe
  | none => false

/-- Beyond the last segment of the reading extent `e`, where a retry has restarted, a search of a stripe below `n` still counts (R147). -/
def State.rereadsBeyond (s : State) (e : Extent) (n : Nat) (a : SegAddr) : Bool :=
  ({ wrap := e.wrap, seg := e.last } : SegAddr).before a
    && s.reader.searches.any fun x => !x.expired && decide (x.stripe < n)

/-- Next to plan after segment `a` has been planned (R142): one on; with the reading extent's last segment the next extent becomes the
reading extent, planned on into when it follows on, else waited for (`jump`); past the last extent, the end of the catalog. DESIGN CHOICE
(log 95): beyond the extent's last segment planning first goes on to the copy that the location names, and for the searches of a retry
restarted there. -/
def State.planned (s : State) (a : SegAddr) : State :=
  let r := s.reader
  let on : Reader :=
    if r.atEnd then { r with nextPlan := some a.next }
    else match r.extent.bind fun i => s.catalog.extents[i]? with
      | none => { r with nextPlan := some a.next }
      | some e =>
        if !a.before { wrap := e.wrap, seg := e.last } && !s.seeksLocation e a then
          let i := r.extent.getD 0 + 1
          match s.catalog.extents[i]? with
          | none => { r with nextPlan := some a.next, atEnd := true }
          | some f =>
            if ({ wrap := f.wrap, seg := f.first } : SegAddr) = a.next then
              { r with nextPlan := some a.next, extent := some i }
            else if s.rereadsBeyond e f.firstStripe a then { r with nextPlan := some a.next }
            else { r with nextPlan := some a.next, extent := some i, jump := true }
        else { r with nextPlan := some a.next }
  { s with reader := on }

/-- A search of the Read Controller still counts segments. -/
def State.searching (s : State) : Bool := s.reader.searches.any fun e => !e.expired

/-- The extent that holds a restart segment (R147); beyond the segments of every extent, the extent of the stripe. -/
def State.extentHolding (s : State) (a : SegAddr) (stripe : Nat) : Option Nat :=
  let holds (e : Extent) : Bool :=
    (e.wrap == a.wrap) && !a.before { wrap := e.wrap, seg := e.first } && !({ wrap := e.wrap, seg := e.last } : SegAddr).before a
  match s.catalog.extents.findIdx? holds with
  | some i => some i
  | none => match extentOfStripe s.catalog.extents stripe with
    | some (i, _) => some i
    | none => s.reader.extent

/-- The met stripe of the lowest number that the read still wants and holds no more, its slot having been reclaimed (R96, R99),
behind the segments planned: no search looks for it, since its copy has read well. -/
def State.reclaimed (s : State) : Option Met :=
  let gone (m : Met) : Bool :=
    m.decodable && !m.again && ((s.reader.nextDrain.map fun d => decide (d ≤ m.stripe)).getD false)
      && !s.holdsDecoded m.stripe && (s.searchFor m.stripe).isNone
      && ((s.reader.nextPlan.map fun p => m.addr.before p).getD false)
  (s.reader.met.filter gone).foldl
    (fun best m => match best with
      | none => some m
      | some x => if m.stripe < x.stripe then some m else some x) none

/-- The read-ahead goes back to read a reclaimed stripe again (R96, R99): next to plan becomes its segment. -/
def State.goBack (s : State) : State :=
  match s.reclaimed with
  | none => s
  | some m =>
    { s with reader := { s.reader with
        nextPlan := some m.addr, extent := s.extentHolding m.addr m.stripe, atEnd := false, jump := false
        met := s.reader.met.map fun x => if x.stripe == m.stripe then { x with again := true } else x } }

/-- The READ plan under way has not ended. -/
def State.readActive (s : State) : Bool := match s.transport.active with | some (.read _) => true | _ => false

/-- The move to a reading extent that does not follow on: once no search of an earlier extent is open, a stop naming no resume segment
and a new stream from the extent's first segment (R142). -/
def State.jumpExtent (s : State) : State :=
  match s.reader.extent.bind fun i => s.catalog.extents[i]? with
  | none => s
  | some f =>
    if s.reader.searches.any fun e => decide (e.stripe < f.firstStripe) then s
    else
      let a : SegAddr := { wrap := f.wrap, seg := f.first }
      ({ s with reader := { s.reader with jump := false, nextPlan := some a } }).requestMotion
        (.stream .read a)

/-- The read-ahead halts with a controlled stop naming the segment after the last one planned (R142, R144). -/
def State.haltReadAhead (s : State) : State :=
  ({ s with reader := { s.reader with halted := true } }).demandStop s.reader.nextPlan

/-- The read stream has met the end of the data area (R82): with no segment left every search is EXPIRED (R146), and the
read-ahead is halted (R144). -/
def State.readAtEnd (s : State) : State :=
  if s.reader.nextDrain.isSome then
    { s with reader := { s.reader with
        halted := true, searches := s.reader.searches.map fun (e : Search) => { e with expired := true } } }
  else s

/-- Next to plan has been passed by the stream (R164, R167). -/
def State.planPassed (s : State) : Bool := (s.reader.nextPlan.map fun a => a.before s.nextSegment).getD false

/-- A READ plan for next to plan goes into the standby slot (R142, R167): a next to plan already passed, and a queue with no slot to
take, are answered by a stop naming it. -/
def State.planRead (s : State) : State :=
  match s.reader.nextPlan with
  | none => s
  | some a =>
    if atEndOfArea a then s
    else if s.planPassed then s.demandStop (some a)
    else if s.nextSegment ≠ a then s
    else match s.takeLoading with
      | none => s.demandStop (some a)
      | some (s1, i) => { s1 with transport := { s1.transport with standby := some (.read i) } }.planned a

/-- The Read Controller fills the standby slot (R142, R144, R164, R167): an ACQUIRING plan found in it is answered by a stop naming next to
plan. With no search open a reclaimed stripe is gone back for, and past the catalog's end the read-ahead halts. DESIGN CHOICE
(log 89): past the catalog's end the standby slot is still filled while the segment in which the last search expires is passing, and the
read-ahead halts when what is planned has been read. -/
def State.offerRead (s : State) : State :=
  match s.transport.standby with
  | some (.acquiring _) => s.demandStop s.reader.nextPlan
  | some _ => s
  | none =>
    if s.reader.halted then s
    else if s.searching then (if s.reader.jump then (if s.readActive then s else s.jumpExtent) else s.planRead)
    else
      let t := s.goBack
      if t.reader.jump then (if t.readActive then t else t.jumpExtent)
      else if t.reader.atEnd then (if t.readActive then t else t.haltReadAhead)
      else t.planRead

/-- A fresh read-ahead from a location: 4 segments upstream of it, moved forward to the reading extent's first segment (R141). -/
def State.startReadAhead (s : State) (l : Location) : State :=
  match extentOfStripe s.catalog.extents l.stripe with
  | none => s
  | some (i, e) =>
    let first : SegAddr := { wrap := e.wrap, seg := e.first }
    let a := SegAddr.back 4 { wrap := l.wrap, seg := l.seg }
    let start := if a.before first then first else a
    ({ s with
      reader := { s.reader with
        nextDrain := some l.stripe, extent := some i, nextPlan := some start, highestMet := none, searches := [], met := []
        halted := false, jump := false, atEnd := false, handed := [], retrying := none }
      gov := { s.gov with governed := true } }.stopWalk).requestMotion (.stream .read start) |>.syncPending

/-- The restart condition of R167, at rest or in RELAXED with no motion asked for. -/
def State.readRestartDue (s : State) : Bool :=
  (s.reader.state == .reading || s.reader.state == .ahead) && !s.reader.halted
    && s.reader.nextPlan.isSome && s.reader.nextDrain.isSome
    && decide (s.settings.restartThreshold ≤ s.countState .free)

/-! ### Retries -/

/-- The restart segment of a retry (R147). -/
def State.restartOf (s : State) (e : Search) : SegAddr :=
  let a := SegAddr.back 4 (e.firstCopy.getD e.opening)
  match extentOfStripe s.catalog.extents e.stripe with
  | some (_, x) =>
    let first : SegAddr := { wrap := x.wrap, seg := x.first }
    if a.before first then first else a
  | none => a

/-- A retry for an expired search (R147): the stop names the restart segment, and the stream restarts there at rest. -/
def State.retry (s : State) (e : Search) : State :=
  let a := s.restartOf e
  let e' : Search := { e with retries := e.retries + 1, expired := false, left := 12, armed := false }
  let s1 := { s with reader := { s.reader with
      searches := s.reader.searches.map fun (x : Search) => if x.stripe == e.stripe then e' else x
      nextPlan := some a, retrying := some a, halted := false, jump := false, atEnd := false
      extent := s.extentHolding a e.stripe } }
  (s1.demandStop (some a)).requestMotion (.stream .read a)

/-! ### Ends of a READ BLOCKS -/

/-- The outstanding operation is a READ BLOCKS at its own work. -/
def State.reading (s : State) : Bool :=
  match s.op, s.opPhase with
  | some (.readBlocks _), some .working => true
  | some (.readBlocks _), some .aborting => true
  | _, _ => false

/-- The statuses after which the read-ahead is kept (R149, R151). -/
def Code.keepsReadAhead : Code → Bool
  | .ok => true | .markerMet => true | .endOfData => true | .aborted => true | _ => false

/-- A READ BLOCKS ends (R149): its response, OUTFLOW freed, the port IDLE, the read-ahead kept or ended; a motion fault of the read
stream leaves none to keep (R151). DEDUCED (log 39): a READ BLOCKS that finds no read-ahead and ends at block count at once
leaves the state IDLE, since AHEAD is a read-ahead kept (R139). DESIGN CHOICE (log 88): the counts of the request that has ended are 0
from its response on. -/
def State.finishRead (s : State) (code : Code) (failed : Option (Nat × Nat × Nat)) (faulted : Option Nat) : State :=
  let r := s.reader
  let moved := (r.ending.map ReadEnding.motion).getD false
  let s1 := s.endOp code
    (.read r.delivered r.sent s.catalog.current s.catalog.blockCount r.corrected failed faulted)
  let s2 := { s1.freeSlotsWhere (fun t => t.state == .outflow) with
    port := { Port.idle with wordOut := s1.port.wordOut }
    engine := { s1.engine with outflow := [] } }
  if code.keepsReadAhead && r.nextDrain.isSome && !moved then
    { s2 with reader := { s2.reader with state := .ahead, request := none, ending := none, delivered := 0, sent := 0,
                                         corrected := 0 } }
  else if r.nextDrain.isSome then s2.endReadAhead true
  else { s2 with reader := { Reader.idle with overlapRaised := r.overlapRaised } }

/-- The walk keeps a checked block that has not been sent. -/
def State.keepsBlock (s : State) : Bool := (s.engine.walk.bind Walk.kept).isSome

/-- The search that fails its stripe, when that stripe is the next to drain and the walk keeps no block before it (R148). -/
def State.failedSearch (s : State) : Option Search :=
  (s.reader.nextDrain.bind s.searchFor).filter fun e =>
    e.expired && decide (s.settings.retryLimit ≤ e.retries) && !s.keepsBlock

/-- The port is at a block boundary. -/
def State.atBlockBoundary (s : State) : Bool := s.port.phase == .idle

/-- Whether an outstanding READ BLOCKS can end now for a reason already found (R148 to R151): a motion fault at a block
boundary; the others when every block sent has been counted; a failed stripe when nothing before it is left to send. -/
def State.readEndTest (s : State) : State :=
  if s.reading && s.atBlockBoundary then
    match s.reader.ending with
    | some e =>
      if e.motion = true ∨ s.reader.handed = [] then s.finishRead e.code e.failed e.faulted
      else match s.failedSearch with
        | some x => s.finishRead .readFailed (some (x.stripe, x.copies.length, x.retries)) none
        | none => s
    | none =>
      match s.failedSearch with
      | some x => s.finishRead .readFailed (some (x.stripe, x.copies.length, x.retries)) none
      | none => s
  else s

/-- An end found for the READ BLOCKS, taken when its block boundary comes; the first found stands. -/
def State.setEnding (s : State) (code : Code) (faulted : Option Nat) : State :=
  match s.reader.ending with
  | some _ => s
  | none => { s with reader := { s.reader with ending := some { code := code, failed := none, faulted := faulted, motion := false } } }

/-! ### The drain and the walk -/

/-- Next to drain moves on, and DECODED stripes below it are freed (R99, R145). -/
def State.setNextDrain (s : State) (n : Nat) : State :=
  let s1 := s.freeSlotsWhere fun t => (t.state == .decoded) && (match t.stripe with | some k => decide (k < n) | none => false)
  { s1 with reader := { s1.reader with nextDrain := some n } }

/-- The DRAINING slot. -/
def State.drainingSlot (s : State) : Option Nat := s.findSlot fun t => t.state == .draining

/-- The walk at the start of a stripe (R113): with no block in hand, the bytes before the first header are skipped and the
expected number is the first header's; a block in hand goes on. -/
def Walk.entering (w : Option Walk) (h : StripeHeader) : Walk :=
  match w with
  | some x =>
    match x.current with
    | some _ => x
    | none => { expected := h.firstHeader, phase := .header, current := none, taken := [], kept := none }
  | none => { expected := h.firstHeader, phase := .header, current := none, taken := [], kept := none }

/-- The bytes of the continuation piece that a stripe entered with no block in hand skips (R113). -/
def pieceToSkip (w : Option Walk) (h : StripeHeader) : Nat :=
  match w.bind Walk.current with
  | some _ => 0
  | none => h.firstOffset.getD h.used

/-- Bytes taken from a DRAINING slot: its fill falls (R99) and the meter counts them (R116). -/
def State.takeBytes (s : State) (i n : Nat) : State :=
  let k := min n (s.slot i).payload.length
  let s1 := s.modifySlot i fun t => { t with payload := t.payload.drop n }
  { s1 with engine := { s1.engine with
      meter := { s1.engine.meter with taken := satAdd max32 s1.engine.meter.taken k } } }

/-- The DRAINING slot becomes FREE and the next stripe is named (R99, R145). -/
def State.freeDraining (s : State) (i next : Nat) : State := (s.freeSlot i).setNextDrain next

/-- The named stripe, DECODED, becomes DRAINING (R99), the walk enters it (R113); a stripe whose bytes are all skipped so is FREE
at once, and its successor is named (R99, R145). -/
def State.startDraining (s : State) (i : Nat) : State :=
  let t := s.slot i
  let s1 := s.modifySlot i fun t => { t with state := .draining }
  match t.header with
  | none => s1
  | some h =>
    let s2 := s1.takeBytes i (pieceToSkip s1.engine.walk h)
    let s3 := { s2 with
      engine := { s2.engine with walk := some (Walk.entering s2.engine.walk h) }
      reader := { s2.reader with
        corrected := if 0 < t.failedTracks then satAdd max16 s2.reader.corrected 1 else s2.reader.corrected } }
    if (s3.slot i).payload = [] then s3.freeDraining i (t.stripe.getD 0 + 1) else s3

/-- The extent of a stripe ends at a block: the block after its last (R145). -/
def State.extentEnd (s : State) (n : Nat) : Option Nat :=
  (extentOfStripe s.catalog.extents n).map fun p => p.2.firstBlock + p.2.blocks

/-- The first stripe of the extent after the one holding stripe n, or n + 1 at the end of the table (R99). -/
def State.stripeAfterExtent (s : State) (n : Nat) : Nat :=
  match extentOfStripe s.catalog.extents n with
  | some (i, _) => match s.catalog.extents[i + 1]? with
    | some e => e.firstStripe
    | none => n + 1
  | none => n + 1

/-- Where the header of the block after `b` stands, once b's last byte has been taken from stripe n with `rest` bytes after it
(R145): nothing when it is block count. -/
def State.successorOf (s : State) (b n rest : Nat) : Option (Nat × Bool) :=
  if b + 1 = s.catalog.blockCount then none
  else if s.extentEnd n = some (b + 1) then some (s.stripeAfterExtent n, true)
  else if rest = 0 then some (n + 1, true)
  else some (n, false)

/-- A block checked, or a marker, goes to the port: SEND_LENGTH with its length word; the walk holds (R114, R115, R145). -/
def State.handOver (s : State) (w : Walk) (h : BlockHeader) (out : List Byte) (succ : Option (Nat × Bool)) : State :=
  let handed : Handed := { successor := succ, isMarker := h.isMarker, sent := false }
  { s with
    engine := { s.engine with walk := some { w with phase := .hold }, outflow := out }
    port := { s.port with phase := .sendLength, lengthWord := some h.rawLen, remaining := ceilDiv h.rawLen 4,
                          bytesLeft := h.rawLen }
    reader := { s.reader with handed := s.reader.handed ++ [handed] } }

/-- A STREAM_FAULT of the wanted block: the walk stops, the request ends after the blocks before it (R114, R150). -/
def State.streamFault (s : State) : State :=
  ({ s with engine := { s.engine with walk := none, outflow := [] } }).setEnding .streamFault (some s.reader.nextDeliver)

/-- The zone-overlap test on a block before it is delivered (R31, R145): whether the READ BLOCKS ends there. -/
def State.overlapTest (s : State) (b : Nat) : State × Bool :=
  if overlapped s.catalog.zones b then
    if s.settings.zoneStrict then (s.raiseOverlap.setEnding .zoneConflict none, true) else (s.raiseOverlap, false)
  else (s, false)

/-- A block that an ABORT left checked and unsent goes to the port again (R115, R145), after the zone-overlap test that every
delivery makes (R31). -/
def State.handKept (s : State) (w : Walk) (h : BlockHeader) (x : Handed) : State :=
  let tested := s.overlapTest h.number
  if tested.2 then tested.1
  else match (if h.isMarker then some [] else expandBlock h w.taken) with
    | some out => tested.1.handOver { w with kept := none } h out x.successor
    | none => tested.1.streamFault

/-- What becomes of the DRAINING slot of stripe n once bytes of block b have been taken from it (R99, R145): with no byte left, or
with the extent's last block taken whole, it is FREE and the next stripe is named. -/
def State.leaveStripe (s : State) (i n : Nat) (whole : Bool) (b : Nat) : State :=
  if whole && (s.extentEnd n == some (b + 1)) then s.freeDraining i (s.stripeAfterExtent n)
  else if (s.slot i).payload = [] then s.freeDraining i (n + 1)
  else s

/-- The walk over the DRAINING stripe as far as it goes (R113, R114): to a block handed over, a fault, an end of the request,
or the end of the stripe's bytes. No byte behind a failing token is taken (R114). DESIGN CHOICE (log 81): 1 to 15 bytes left where a header
is due are a header that fails its test. DESIGN CHOICE (log 82): a header that fails its test is not taken from the slot. DESIGN CHOICE (log 93):
a header that passes its test is one below the block wanted, skipped, or else, be its number above that, the header of the block wanted. The
fuel bounds the headers met. -/
def State.walkRun : Nat → State → State
  | 0, s => s
  | fuel + 1, s =>
    match s.engine.walk with
    | none => s
    | some w =>
      match w.current, w.kept with
      | some h, some x => s.handKept w h x
      | some h, none =>
        let need := h.storedLen - w.taken.length
        match s.drainingSlot with
        | none => s
        | some i =>
          let t := s.slot i
          let held := t.payload.take need
          let got := if w.phase = .skipBlock || h.isMarker then held
            else held.take (bytesTaken h (w.taken ++ held) - w.taken.length)
          let w1 := { w with taken := w.taken ++ got }
          let s1 := s.takeBytes i got.length
          let s2 := { s1 with engine := { s1.engine with walk := some w1 } }
          let rest := (s2.slot i).payload.length
          let n := t.stripe.getD 0
          let s3 := s2.leaveStripe i n (decide (need ≤ got.length)) h.number
          if got.length < need then
            if w.phase = .skipBlock then s3
            else match expandBlock h w1.taken with
              | some out => { s3 with engine := { s3.engine with outflow := out } }
              | none => s3.streamFault
          else if w.phase = .skipBlock then
            State.walkRun fuel
              { s3 with engine := { s3.engine with
                  walk := some { w1 with expected := w.expected + 1, phase := .header, current := none, taken := [] } } }
          else if h.isMarker then s3.handOver w1 h [] (s.successorOf h.number n rest)
          else match expandBlock h w1.taken with
            | some out => s3.handOver w1 h out (s.successorOf h.number n rest)
            | none => s3.streamFault
      | none, _ =>
        match s.drainingSlot with
        | none => s
        | some i =>
          let t := s.slot i
          let n := t.stripe.getD 0
          if t.payload = [] then s.freeDraining i (n + 1)
          else if s.extentEnd n = some w.expected then s.freeDraining i (s.stripeAfterExtent n)
          else
            let h := BlockHeader.parse (t.payload.take 16)
            if !h.passes w.expected || decide (t.payload.length < 16) then s.streamFault
            else if h.number < s.reader.nextDeliver then
              let s1 := s.takeBytes i 16
              State.walkRun fuel
                { s1 with engine := { s1.engine with walk := some { w with phase := .skipBlock, current := some h, taken := [] } } }
            else
              let tested := s.overlapTest h.number
              if tested.2 then tested.1
              else
                let s1 := tested.1.takeBytes i 16
                let ph := if h.flags = flagCompressed then WalkPhase.expand else WalkPhase.copy
                State.walkRun fuel
                  { s1 with engine := { s1.engine with walk := some { w with phase := ph, current := some h, taken := [] } } }

/-- The outstanding READ BLOCKS still wants a block: fewer than n handed over, no marker among them, no end found (R145,
R149). -/
def State.wantsBlock (s : State) : Bool :=
  match s.reader.request with
  | some (.readBlocks n) =>
    decide (s.reader.delivered + s.reader.handed.length < n) && (s.reader.ending == none)
      && !(s.reader.handed.any Handed.isMarker) && decide (s.reader.nextDeliver < s.catalog.blockCount)
      && (s.opPhase == some .working)
  | _ => false

/-- The last word of a block has passed: the block is sent (R115, R145). DESIGN CHOICE (log 94): the port is IDLE until the next block of
the request is handed over. -/
def State.blockSent (s : State) : State :=
  let handed := match s.reader.handed.reverse with
    | x :: xs => (({ x with sent := true } : Handed) :: xs).reverse
    | [] => []
  { s with
    port := { Port.idle with wordOut := s.port.wordOut }
    engine := { s.engine with
      outflow := []
      walk := s.engine.walk.map fun w => { w with phase := .header, expected := w.expected + 1, current := none, taken := [] } }
    reader := { s.reader with sent := s.reader.sent + 1, nextDeliver := s.reader.nextDeliver + 1, handed := handed } }

/-- The header of the successor of the oldest block not yet counted has been located (R145). -/
def State.successorLocated (s : State) : Option (Handed × Option Location) :=
  match s.reader.handed with
  | [] => none
  | x :: _ =>
    if x.sent then
      match x.successor with
      | none => some (x, none)
      | some (n, z) =>
        (s.reader.met.find? fun m => m.stripe == n).map fun m =>
          (x, some { stripe := n, wrap := m.addr.wrap, seg := m.addr.seg, atZero := z, headerOnly := !m.decodable })
    else none

/-- Current Block and its location advance, and the READ BLOCKS ends when a condition of R149 holds (R145, R149); with position-valid
cleared by a motion fault the location stays absent (R17). -/
def State.advanceCurrent (s : State) : State :=
  match s.successorLocated with
  | none => s
  | some (x, l) =>
    let s1 := { s with
      catalog := { s.catalog with
        current := s.catalog.current + 1, location := if s.catalog.positionValid then l else none }
      reader := { s.reader with delivered := s.reader.delivered + 1, handed := s.reader.handed.drop 1 } }
    if s1.reading && (s1.opPhase == some .working) && (s1.reader.ending == none) then
      if x.isMarker then s1.finishRead .markerMet none none
      else if s1.catalog.current = s1.catalog.blockCount then s1.finishRead .endOfData none none
      else match s1.reader.request with
        | some (.readBlocks n) => if n ≤ s1.reader.delivered then s1.finishRead .ok none none else s1
        | _ => s1
    else s1.readEndTest

/-- A halted read-ahead goes on from next to plan (R144, R167), whatever the FREE count; one that has planned the catalog to its end
and looks for no stripe stays halted (R142). -/
def State.resumeHalted (s : State) : State :=
  let t := if s.searching then s else s.goBack
  if t.reader.atEnd && !t.searching then t
  else
    let u := { t with reader := { t.reader with halted := false } }
    match u.reader.nextPlan with
    | some a => if atEndOfArea a then u.readAtEnd else u.requestMotion (.stream .read a)
    | none => u

/-- The zone-overlap test of a block that an ABORT found partly taken, in the request that goes on with it (R31, R145): whether the
request ends there. -/
def State.testInHand (s : State) : State × Bool :=
  match s.engine.walk with
  | some w => match w.current, w.kept with
    | some h, none => if w.phase = .skipBlock then (s, false) else s.overlapTest h.number
    | _, _ => (s, false)
  | none => (s, false)

/-- A READ BLOCKS takes up a read-ahead (R141, R144, R147): the searches' retries are counted from 0, and a halt is over, by the
retry of the lowest expired search where the retry limit allows one. -/
def State.takeUpReadAhead (s : State) : State :=
  let s1 := { s with reader := { s.reader with searches := s.reader.searches.map fun (e : Search) => { e with retries := 0 } } }
  if s1.reader.halted then
    match s1.reader.searches.find? fun e => e.expired && decide (e.retries < s.settings.retryLimit) with
    | some e => s1.retry e
    | none => s1.resumeHalted
  else s1

/-- A READ BLOCKS begins its own work (R141). -/
def State.beginRead (s : State) (n : Nat) : State :=
  let ahead := s.reader.state = .ahead ∧ s.reader.nextDrain.isSome = true
  let base := if ahead then s.reader else Reader.idle
  let s1 := { s with reader := { base with
      state := .reading, request := some (.readBlocks n), delivered := 0, sent := 0, corrected := 0, ending := none
      nextDeliver := s.catalog.current, overlapRaised := false } }.setPhase .working
  if s1.catalog.current = s1.catalog.blockCount then s1.finishRead .endOfData none none
  else
    let s2 := if (s1.lowestFree).isSome then s1.takeStage .outflow
      else match highestDecoded s1.queue.slots with
        | some i => s1.modifySlot i fun _ => { Slot.empty with state := .outflow }
        | none => s1
    if ahead then
      let tested := s2.testInHand
      if tested.2 then tested.1.readEndTest else tested.1.takeUpReadAhead
    else match s2.catalog.location with
      | some l => s2.startReadAhead l
      | none => s2.finishRead .readFailed none none

/-- An ABORT of a READ BLOCKS at its own work (R115, R151): a checked block whose length word has not passed is not sent, and the walk
keeps it for the read that goes on. The end found before, if any, gives way to ABORTED (R193). DESIGN CHOICE (log 61): the bytes
already taken of a block not sent stay with the walk, so next to drain may lie behind the location's stripe (R141). -/
def State.abortRead (s : State) : State :=
  let s1 := s.setPhase .aborting
  let s2 :=
    if s1.port.phase = .sendLength then
      { s1 with
        port := { Port.idle with wordOut := s1.port.wordOut }
        engine := { s1.engine with
          outflow := []
          walk := s1.engine.walk.map fun w =>
            { w with
              phase := (match w.current with
                | some h => if h.flags = flagCompressed then .expand else .copy
                | none => .header)
              kept := s1.reader.handed.getLast? } }
        reader := { s1.reader with handed := s1.reader.handed.dropLast } }
    else s1
  let motion := (s2.reader.ending.map ReadEnding.motion).getD false
  ({ s2 with reader := { s2.reader with
      ending := some { code := .aborted, failed := none, faulted := none, motion := motion } } }).readEndTest

/-- A motion fault of the read stream (R151): an outstanding READ BLOCKS ends at its block boundary, with ABORTED when its ABORT came
first (R193); a read-ahead alone ends, its state IDLE at rest. -/
def State.readMotionFault (s : State) (code : Code) : State :=
  if s.reading then
    let aborted := (s.reader.ending.map fun e => e.code == .aborted).getD false
    ({ s with reader := { s.reader with
        ending := some { code := if aborted then .aborted else code, failed := none, faulted := none, motion := true } } }).readEndTest
  else match s.reader.state with
    | .idle => s
    | .spacing => s
    | _ => s.endReadAhead true

end Sys2Proof.Machine
end

