-- ==== Sys2Proof/Machine/ScanOps.lean ====
section
/-! DEFINITION. The Head Monitor's scanner (R176 to R178): its start, its passes, its window ends and its ends. -/

namespace Sys2Proof.Machine

/-- A motion asked for is given up: a stream, a turnaround or a locate motion is brought to a controlled stop naming no resume segment
(in LOCATING a DESIGN CHOICE, log 63), a motion that waits for rest or re-tension is not begun (R80, R154, R177).
DESIGN CHOICE (log 40): a re-tension whose request is given up goes on, and RETENSION_COMPLETE enters STOPPED (R84). DESIGN CHOICE (log 72): a
stop naming a resume segment that has begun its BACKHITCH runs to that segment's ready point, with no restart there. -/
def State.haltMotion (s : State) : State :=
  let s1 : State := { s with transport := { s.transport with deferred := none } }
  match s1.transport.state with
  | .relaxed => { s1 with transport := { s1.transport with motion := .idle } }
  | _ => s1.demandHalt

/-- The stream that a scan asks for: from wrap 0, segment 0 (R176). -/
def scanStream : MotionReq := .stream .scan { wrap := 0, seg := 0 }

/-- A scan begins with A, B and the start element as they stand (R176). -/
def State.beginScan (s : State) (postClean : Bool) : State :=
  let scan : Scan :=
    { postClean := postClean, a := s.settings.scanA, b := s.settings.scanB, element := s.settings.scanStart, done := 0,
      pass := 0, elapsed := 0, measuring := false, signal := none, raised := false, ending := none }
  ({ s with head := { s.head with scan := some scan } }).requestMotion scanStream

/-- The time of a window pair in microseconds (R176). -/
def Scan.pairTime (c : Scan) : Nat := (c.a + 1 + (c.b + 1)) * 16

/-- A window pair begins when its end falls within the pass (R176). -/
def Scan.nextPair (c : Scan) : Scan :=
  { c with measuring := decide (c.elapsed + c.pairTime ≤ 16666), signal := none }

/-- The boundary that begins segment 0 begins a pass (R176). DESIGN CHOICE (log 54): the pass number shown (R177) is 0 before the first pass
begins and then counts the passes from 1. -/
def Scan.beginPass (c : Scan) : Scan := { c with pass := c.pass + 1, elapsed := 0 }.nextPair

def State.setScan (s : State) (c : Option Scan) : State := { s with head := { s.head with scan := c } }

/-- The boundary that ends segment 1 ends the pass: a pair under way is discarded; with elements left, the stop names segment 0
and the restart is demanded at once (R176). -/
def State.scanPassEnd (s : State) : State :=
  match s.head.scan with
  | none => s
  | some c =>
    let s1 := s.setScan (some { c with measuring := false, signal := none })
    if c.done < 18 ∧ c.ending = none then
      (s1.demandStop (some { wrap := 0, seg := 0 })).requestMotion scanStream
    else s1

/-- A measurement stored in the element's entry, its status evaluated (R171, R176): HEAD_CONDITION on a change to DEAD. -/
def State.storeElement (s : State) (i amplitude noise : Nat) : State :=
  s.setTable (s.head.table.modify i fun e => e.measured s.settings amplitude noise)

/-- The marks a scan of 18 elements leaves (R177, R178): SCAN_DONE; the worn mark cleared when none is DEAD; after a post-clean
scan the flag cleared and, with an element DEAD, the worn mark set and HEAD_CONDITION raised unless this scan has raised
it. -/
def State.scanMarks (s : State) (c : Scan) : State :=
  let anyDead := decide (0 < deadCount s.head.table)
  let s1 := (s.raise .scanDone).raiseIf (c.postClean && anyDead && !c.raised) .headCondition
  { s1 with head := { s1.head with
      postClean := if c.postClean then false else s1.head.postClean
      worn := if anyDead then (if c.postClean then true else s1.head.worn) else false } }

/-- The payload of a SCAN HEAD response (R177). -/
def State.scanPayload (s : State) (c : Scan) : Payload :=
  .scanned c.done (deadCount s.head.table) s.head.table

/-- A scan ends, its response waiting for rest (R177): on its 18th element or on ABORT. DESIGN CHOICE (log 64): a scan whose 18
elements are done keeps its OK, though an ABORT is taken before the tape is at rest (R177, R193). -/
def State.endScanLate (s : State) (code : Code) : State :=
  match s.head.scan with
  | none => s
  | some c => (s.setScan (some { c with measuring := false, signal := none, ending := some (c.ending.getD code) })).haltMotion

/-- A scan ends at once with a status: RESET DRIVE, a motion fault (R177). A post-clean scan has no response of its own. -/
def State.endScanNow (s : State) (code : Code) : State :=
  match s.head.scan with
  | none => s
  | some c => if c.postClean then s.setScan none else (s.endOp code (s.scanPayload c)).setScan none

/-- The tape is at rest: it does not move, and no motion waits for tension. -/
def State.atRest (s : State) : Bool := !s.transport.state.moving && (s.transport.motion == .idle)

/-- The response of a scan that has ended is sent on reaching rest (R177). -/
def State.settleScan (s : State) : State :=
  match s.head.scan with
  | none => s
  | some c => match c.ending with
    | some code => if s.atRest then s.endScanNow code else s
    | none => s

end Sys2Proof.Machine
end

