-- ==== Sys2Proof/Machine/MediumOps.lean ====
section
/-! DEFINITION. The Medium Controller's shared operations (chapter 3): unthreading (R62), cartridge memory writes (R50 to R52),
the opening of a session (R121), the completion of a mount (R55, R56), the unmount (R59 to R61), cleaning (R63), and the ends
that a motion fault, a RESET DRIVE or a loss of the cartridge gives them. -/

namespace Sys2Proof.Machine

/-! ### Ends of LOAD and UNLOAD -/

/-- The payload of an UNLOAD response (R61): of the eject from SEATED, nothing. DESIGN CHOICE (log 69): nothing, too, of an UNLOAD that
RESET DRIVE ends, or that ends in its flush phase with no image set aside. -/
def State.unloadPayload (s : State) : Payload :=
  match s.medium.unmount with
  | none => .none
  | some u => .unloaded (u.save.getD .notSaved) (u.written.getD false) u.flush

/-- The payload of a LOAD response: the new passes remaining of a completed cleaning run (R63), the identity copy of a mount
(R56), nothing otherwise. -/
def State.loadPayload (s : State) (code : Code) : Payload :=
  match code with
  | .ok => match s.medium.identity.bind Identity.record with
    | some r => if r.kind = .cleaning then .cleaned r.passes else .loaded s.medium.identity
    | none => .loaded s.medium.identity
  | .rebuilt => .loaded s.medium.identity
  | .rebuiltShort => .loaded s.medium.identity
  | _ => .none

/-- The outstanding LOAD or UNLOAD ends with a status (R53, R58, R61). -/
def State.endMedium (s : State) (code : Code) : State :=
  match s.op with
  | some .unload => s.endOp code s.unloadPayload
  | some .load => s.endOp code (s.loadPayload code)
  | _ => s

/-! ### Unthreading -/

/-- THREAD_MOTION for an unthread (R62): the wind-back when a leader was captured, else the return at once. -/
def State.driveUnthread (s : State) : State :=
  s.threadMotion.setMediumPhase (if s.medium.leader then .windingBack else .returning)

/-- An unthread begins: the Medium State is UNTHREADING; a moving tape is stopped first, and the wind-back begins from the
state the stop leaves (R62, R87). -/
def State.beginUnthread (s : State) (a : AfterUnthread) : State :=
  let s1 := (s.enterMedium .unthreading).setMediumPhase .idle
  let s2 := { s1 with medium := { s1.medium with after := some a } }
  if s2.transport.state.moving then s2.immediateStop else s2.driveUnthread

/-- Rest reached with an unthread waiting for it. -/
def State.settleUnthread (s : State) : State :=
  if s.medium.state = .unthreading ∧ s.medium.phase = .idle ∧ s.transport.state.moving = false then s.driveUnthread else s

/-- EJECT_DRV pushes the cartridge out; `code` answers the outstanding operation on entering EJECTED (R49, R53, R58). -/
def State.beginEject (s : State) (code : Option Code) : State :=
  { s.setMediumPhase .ejecting with
    medium := { (s.setMediumPhase .ejecting).medium with after := some { eject := true, code := code, retry := false } } }

/-- The unthread has succeeded (R62): PARKED, SEATED or EMPTY; an eject follows, or the operation ends. -/
def State.unthreaded (s : State) : State :=
  let after := s.medium.after
  let s1 := s.park
  let s2 := (s1.enterMedium (if s1.medium.present then .seated else .empty)).setMediumPhase .idle
  let s3 := { s2 with medium := { s2.medium with
    leader := false, after := none, identity := if s2.medium.present then s2.medium.identity else none } }
  match after with
  | none => s3
  | some a =>
    if a.eject && s3.medium.present then s3.beginEject a.code
    else match a.code with
      | some c => let s4 := s3.endMedium c
                  { s4 with medium := { s4.medium with unmount := none } }
      | none => { s3 with medium := { s3.medium with unmount := none } }

/-- The unthread has failed (R62): tension released, STUCK, the operation ends with MEDIUM_FAULT. -/
def State.stuck (s : State) : State :=
  let s1 := (s.park.enterMedium .stuck).setMediumPhase .idle
  let s2 := s1.endMedium .mediumFault
  { s2 with medium := { s2.medium with after := none, unmount := none } }

/-! ### Leaving MOUNTED and the mount's end -/

/-- The catalog takes the values of R45 for leaving MOUNTED or for an unthread from MOUNTING or REBUILDING; the Deferred Error
record is cleared (R132), the slots of the work ended are freed. -/
def State.unmountCatalog (s : State) : State :=
  let s1 := s.freeSlotsWhere fun t => t.isRead || (t.state == .image) || (t.state == .outflow)
  { s1 with
    catalog := Catalog.unmounted
    writer := { s1.writer with deferred := none } }

/-- What a cartridge memory write still serves once the mount, the unmount or the session's opening that needed it is over: an opening
leaves the session number (R121), the others the identity copy alone (R57, R65). -/
def CmPurpose.late (p : CmPurpose) : CmPurpose :=
  match p with
  | .sessionOpening => .lateOpening
  | .mountCompletion => .lateWrite
  | .unmount => .lateWrite
  | q => q

/-- The write under way goes on with nothing waiting for it. -/
def CmWrite.late (w : CmWrite) : CmWrite := { w with purpose := w.purpose.late }

/-- The load-count write of a mount that is over: not made when it waits, carried to its end when it is under way (R57). -/
def State.dropMountWrite (s : State) : State :=
  { s with medium := { s.medium with
      write := s.medium.write.map CmWrite.late, waiting := s.medium.waiting.filter fun p => p != .mountCompletion } }

/-- A mount that did not reach MOUNTED ends: R45's values, PC discarded (R179), the tape unthreaded, LOAD's status on SEATED
(R54, R56, R57, R65). DESIGN CHOICE (log 47): a load-count write already under way ends on its own and changes the identity copy
alone. -/
def State.failMount (s : State) (code : Code) : State :=
  (s.unmountCatalog.discardPc.dropMountWrite).beginUnthread { eject := false, code := some code, retry := false }

/-! ### Cartridge memory writes -/

/-- The cut of a retirement at block b by the location its fine search has found (R25, R27), whatever has become of the Current Block
location since; at block count there is none to make. -/
def Catalog.retireAt (c : Catalog) (b : Nat) (place : Option Location) : Catalog :=
  if b < c.blockCount then { c with location := place }.cut b else c

/-- The record of a cartridge memory write (R51). -/
def State.cmRecord (s : State) (p : CmPurpose) (r : CmRecord) : CmRecord :=
  let counter := satAdd max32 s.catalog.session 1
  match p with
  | .sessionOpening => { r with valid := false, everWritten := true, sessionCounter := counter }
  | .lateOpening => { r with valid := false, everWritten := true, sessionCounter := counter }
  | .retire b place =>
    { r with valid := false, everWritten := true, sessionCounter := counter,
             eod := { session := counter, stripe := (s.catalog.retireAt b place).append.stripe, block := b } }
  | .setZone _ _ _ => { r with valid := false }
  | .mountCompletion =>
    { r with loadCount := satAdd max16 r.loadCount 1, valid := if s.medium.source = .ok then r.valid else false }
  | .unmount =>
    match s.medium.unmount with
    | none => r
    | some u =>
      let saved := u.save == some .saved
      { r with
        valid := saved || (u.save == some .notNeeded), everWritten := r.everWritten || saved
        sessionCounter := u.session
        eod := { session := u.session, stripe := u.nextStripe, block := u.blockCount } }
  | .cleaningEnd => { r with passes := r.passes - 1 }
  | .lateWrite => r

/-- The identity copy shows catalog valid set. -/
def State.catalogValid (s : State) : Bool := ((s.medium.identity.bind Identity.record).map CmRecord.valid).getD false

def State.memoryFault (s : State) : Bool := (s.medium.identity.map Identity.memoryFault).getD false

/-- A zone is stored: the new values, dirty set, OK with the zone as stored (R32). -/
def State.storeZone (s : State) (tag : Byte) (i : Nat) (z : Zone) : State :=
  { s with catalog := { s.catalog with zones := s.catalog.zones.set i z, dirty := true } }.respond tag .ok (.zone z)

/-- Steps 4 to 7 of R121: the session number, the cut, the reservation, the stages and the first block; with an ABORT waiting,
the block is discarded and the session stays open in BEHIND. DESIGN CHOICE (log 70): the first block's compression policy is fixed here,
when its opening write has ended (R106). -/
def State.openSession (s : State) : State :=
  let counter := satAdd max32 s.catalog.session 1
  let c0 : Catalog := { s.catalog with session := counter, dirty := true }
  let c1 : Catalog :=
    if c0.current < c0.blockCount then { ({ c0 with location := s.writer.start } : Catalog).cut c0.current with location := none }
    else c0
  let aborting := s.opPhase == some .aborting
  match c1.reserve (some counter) c1.append.wrap c1.append.seg with
  | none =>
    let s1 := { s with catalog := c1, writer := { s.writer with opening := false } }
    s1.emptyStages.endWrite (if aborting then .aborted else .catalogFull) none
  | some c2 =>
    let c3 := { c2 with nextJoin := c2.append.stripe, reports := [], confirmed := [] }
    let length := s.port.lengthWord.getD 0
    let block := BlockRecord.opened c3.current length (length == 0) (compressionOf s.settings c3.zones c3.current)
    let s1 := { s with
      catalog := c3
      writer := { s.writer with
        opening := false, session := some counter, openWrap := some c3.append.wrap
        firstStripe := some c3.append.stripe, highestStripe := some c3.append.stripe, opened := false, lastCopy := none
        fault := none, warned := false } }
    let s2 := s1.takeStages.evaluateWarning
    if aborting then s2.emptyStages.endWrite .aborted none
    else
      let s3 := { s2 with
        engine := { s2.engine with block := some block }
        port := { s2.port with lengthWord := none } }
      s3.runEngine

/-- The unmount rewinds by locate motion, or by reel count after a motion fault (R61). -/
def State.beginRewind (s : State) : State :=
  let fault := (s.medium.unmount.map Unmount.motionFault).getD false
  (s.setMediumPhase .rewinding).requestMotion (if fault then .reelRewind else .unmountRewind)

/-- The status of an UNLOAD whose unthread has succeeded (R61). -/
def Unmount.status (u : Unmount) : Code :=
  match u.flush with
  | some r => if r.code = .endOfMedium then .endOfMedium else .writeFailed
  | none =>
    if u.save = some .notSaved then .catalogNotSaved
    else if u.written = some true then .ok else .mediumFault

/-- The end of a retirement's cartridge memory write (R27, R28). -/
def State.retireDone (s : State) (b : Nat) (place : Option Location) (ok : Bool) : State :=
  let code (c : Code) : Code := if s.opPhase = some .aborting then .aborted else c
  if ok then
    match s.medium.identity.bind Identity.record with
    | none => s.endOp (code .ok) .none
    | some r =>
      { s with catalog := { s.catalog.retireAt b place with
          session := r.sessionCounter, eod := r.eod, dirty := true, current := b, positionValid := true,
          location := none } }.endOp (code .ok) .none
  else s.endOp (code .mediumFault) .none

/-- The end of a mount's load-count write (R56, R182). -/
def State.mountDone (s : State) (ok : Bool) : State :=
  if s.medium.phase = .mountWrite then
    if ok then
      let serial := ((s.medium.identity.bind Identity.record).map CmRecord.serial).getD []
      let s1 := (s.enterMedium .mounted).setMediumPhase .idle
      let s2 := { s1 with catalog := s1.catalog.toBeginning }.openMount serial
      s2.endMedium s2.medium.source
    else s.failMount .mediumFault
  else s

/-- The end of the unmount's write, whatever its outcome (R60): the Head Monitor commits the mount, the image slot is freed,
the rewind begins. -/
def State.unmountWriteDone (s : State) (ok : Bool) : State :=
  if s.medium.phase = .unmountWrite then
    let s1 : State := { s with medium := { s.medium with
      unmount := s.medium.unmount.map fun (u : Unmount) => { u with written := some ok } } }
    ((s1.commitMount).freeSlotsWhere fun t => t.state == .image).beginRewind
  else s

/-- The end of a cleaning run's write (R63, R64). -/
def State.cleaningDone (s : State) (ok : Bool) : State :=
  if s.medium.phase = .cleanWrite then
    let s1 := if ok then s.cleaned.evaluateLevel else s
    let reset := s1.medium.resetInWrite
    let code := if reset then Code.aborted else if ok then .ok else .mediumFault
    { s1 with medium := { s1.medium with resetInWrite := false } }.beginUnthread
      { eject := !reset, code := some code, retry := false }
  else s

/-- What the end of a cartridge memory write brings to the event that needed it (R51). -/
def State.cmEnded (s : State) (p : CmPurpose) (ok : Bool) : State :=
  match p with
  | .sessionOpening =>
    let s1 := { s with writer := { s.writer with opening := false } }
    if s.writer.opening && s.writeOutstanding then
      if ok then s1.openSession
      else s1.emptyStages.endWrite (if s.opPhase = some .aborting then .aborted else .mediumFault) none
    else s1
  | .lateOpening =>
    if ok && (s.medium.state == .mounted) then
      { s with catalog := { s.catalog with session := satAdd max32 s.catalog.session 1, dirty := true } }
    else s
  | .retire b place => match s.op with
    | some (.retireFrom _) => s.retireDone b place ok
    | _ => s
  | .setZone tag i z => if ok then s.storeZone tag i z else s.respond tag .mediumFault .none
  | .mountCompletion => s.mountDone ok
  | .unmount => s.unmountWriteDone ok
  | .cleaningEnd => s.cleaningDone ok
  | .lateWrite => s

/-- A cartridge memory write begins; with no readable identity copy there is none to make. -/
def State.startCm (s : State) (p : CmPurpose) : State :=
  match s.medium.identity.bind Identity.record with
  | none => s
  | some r => { s with medium := { s.medium with write := some { purpose := p, record := s.cmRecord p r, second := false } } }

/-- A cartridge memory write asked for (R50): refused as failed while memory fault is set, waiting while another is under way. -/
def State.requestCm (s : State) (p : CmPurpose) : State :=
  if s.memoryFault then s.cmEnded p false
  else match s.medium.write with
    | some _ => { s with medium := { s.medium with waiting := s.medium.waiting ++ [p] } }
    | none => s.startCm p

/-- The zone's stored access is WRITE_ONCE (R32). -/
def State.zoneProtected (s : State) (i : Nat) : Bool := (s.catalog.zones.getD i Zone.unused).access == .writeOnce

/-- A SET ZONE past its checks (R32, R52): with catalog valid set the write comes first. DEDUCED (log 46): so also when its values are
those stored, since R32 sets dirty for them too and a save is needed only when catalog valid is clear (R65). -/
def State.zoneOrWrite (s : State) (tag : Byte) (i : Nat) (z : Zone) : State :=
  if !s.catalogValid then s.storeZone tag i z
  else if s.memoryFault then s.respond tag .mediumFault .none
  else s.startCm (.setZone tag i z)

/-- With no write under way, the writes that waited and the SET ZONEs held go on in order, until one begins a write (R52); a held
one meets the zone as the writes before it have left it (R32). -/
def State.nextCm : Nat → State → State
  | 0, s => s
  | fuel + 1, s =>
    match s.medium.write with
    | some _ => s
    | none =>
      match s.medium.waiting with
      | p :: ps => State.nextCm fuel ({ s with medium := { s.medium with waiting := ps } }.requestCm p)
      | [] =>
        match s.medium.heldZones with
        | h :: hs =>
          let s1 := { s with medium := { s.medium with heldZones := hs } }
          State.nextCm fuel (if s1.medium.state ≠ .mounted then s1.respond h.tag .mediumFault .none
            else if s1.zoneProtected h.index then s1.respond h.tag .zoneProtected .none
            else s1.zoneOrWrite h.tag h.index h.zone)
        | [] => s

/-- The read-back has ended (R50): agreement replaces the record fields; the first disagreement writes once more; the second
sets memory fault. -/
def State.cmReadBack (s : State) (readBack : Option (List Byte)) : State :=
  match s.medium.write with
  | none => s
  | some w =>
    let ended : State := { s with medium := { s.medium with write := none } }
    let fuel := s.medium.waiting.length + s.medium.heldZones.length + 1
    if readBack = some w.record.bytes ∧ CmRecord.parse readBack ≠ none then
      let s1 := { ended with medium := { ended.medium with
        identity := ended.medium.identity.map fun (i : Identity) => { i with record := some w.record } } }
      (s1.cmEnded w.purpose true).nextCm fuel
    else if w.second then
      let s1 := { ended with medium := { ended.medium with
        identity := ended.medium.identity.map fun (i : Identity) => { i with memoryFault := true } } }
      (s1.cmEnded w.purpose false).nextCm fuel
    else { s with medium := { s.medium with write := some { w with second := true } } }

/-- Every cartridge memory write under way or waiting is lost with the cartridge: its SET ZONEs are answered MEDIUM_FAULT
(R49, R51). -/
def State.dropCm (s : State) : State :=
  let purposes := (s.medium.write.map CmWrite.purpose).toList ++ s.medium.waiting
  let tags := (purposes.filterMap fun p => match p with | .setZone t _ _ => some t | _ => none)
    ++ s.medium.heldZones.map HeldZone.tag
  let s1 := tags.foldl (fun st t => st.respond t .mediumFault .none) s
  { s1 with
    medium := { s1.medium with write := none, waiting := [], heldZones := [] }
    writer := { s1.writer with opening := false } }

/-! ### Mounting -/

/-- The catalog is ready (R56): the post-clean scan when its flag is set, then the load-count write. -/
def State.catalogReady (s : State) (source : Code) : State :=
  let s1 := { s with medium := { s.medium with source := source } }
  if s1.head.postClean then (s1.setMediumPhase .postCleanScan).beginScan true
  else (s1.setMediumPhase .mountWrite).requestCm .mountCompletion

/-- The payload of the catalog slot (R101): a FREE slot becomes IMAGE. DESIGN CHOICE (log 59): the lowest-numbered one. -/
def State.takeImage (s : State) (payload : List Byte) : State :=
  match s.takeFree .image with
  | some (s1, i) => s1.modifySlot i fun t => { t with payload := payload }
  | none => s

def State.imageSlot (s : State) : Option Nat := s.findSlot fun t => t.state == .image

/-- A load begins, of the whole image or of the zones alone (R40, R44). -/
def State.beginLoad (s : State) (zonesOnly : Bool) : State :=
  let s1 := s.takeImage []
  { s1 with catalog := { s1.catalog with work := .load 2 zonesOnly } }.requestMotion (.stream .load { wrap := 0, seg := 2 })

/-- A rebuild begins from an empty table (R41). -/
def State.beginRebuild (s : State) : State :=
  let r : Rebuild :=
    { next := { wrap := 0, seg := 16 }, last := none, carry := none, lastAddr := none, emptyRun := 0, miss := none,
      later := [], closed := [], reach := none, readOn := false, accepted := [], seen := [], outcome := none }
  let s1 := (s.enterMedium .rebuilding).setMediumPhase .catalogWork
  { s1 with catalog := { s1.catalog with work := .rebuild r, extents := [], blockCount := 0, markerCount := 0,
                                         reports := [], reservations := [] } }.requestMotion
    (.stream .rebuild { wrap := 0, seg := 16 })

/-- Entry into MOUNTING and the choice of the catalog's source (R55, R17, R182). -/
def State.beginMounting (s : State) (r : CmRecord) : State :=
  let s1 := ((s.enterMedium .mounting).setMediumPhase .catalogWork).startMountCounts
  let s2 := { s1 with catalog := { Catalog.unmounted with session := r.sessionCounter, eod := r.eod } }
  if r.valid then s2.beginLoad false
  else if r.everWritten then s2.beginRebuild
  else { s2 with catalog := { s2.catalog with dirty := true } }.catalogReady .ok

/-- Entry into CLEANING: the tape streams forward at step 0 with no marks to count (R63, R72). DESIGN CHOICE (log 56): its passes, which no
run-up of R78 precedes, leave the synthesizer as it was (R85). -/
def State.beginCleaning (s : State) : State :=
  let s1 := (s.enterMedium .cleaning).setMediumPhase .cleanForward
  let s2 := s1.enterTransport .streaming
  { s2 with
    medium := { s2.medium with passCounts := 0 }
    transport := { s2.transport with
      motion := .stream .cleaning, stop := .none, deferred := none, against := false, active := some .pass, step := 0,
      pendingStep := none, runUp := 0, startAt := none, unhanded := 0 } }

/-! ### Unmounting -/

/-- The save is over (R39, R60): the unmount write follows. -/
def State.unmountWrite (s : State) : State := (s.setMediumPhase .unmountWrite).requestCm .unmount

/-- The unmount image is set aside, the state enters UNMOUNTING, and the save begins when one is needed and the tab permits
(R59, R60). -/
def State.beginUnmount (s : State) : State :=
  let c := s.catalog
  let tab := (s.medium.identity.map Identity.tab).getD false
  let u : Unmount :=
    { saveNeeded := c.dirty, session := c.session, nextStripe := c.append.stripe,
      blockCount := c.blockCount, save := if !c.dirty then some .notNeeded else if tab then some .notSaved else none,
      written := none, flush := s.medium.flushFault, motionFault := s.medium.unloadFault }
  let s1 := (s.freeReads.unmountCatalog.takeImage c.image).enterMedium .unmounting
  let s2 := { s1 with medium := { s1.medium with unmount := some u, flushFault := none, unloadFault := false } }
  match u.save with
  | none =>
    { s2.setMediumPhase .saving with catalog := { s2.catalog with work := .save 0 none } }.requestMotion
      (.stream .save { wrap := 0, seg := 2 })
  | some _ => s2.unmountWrite

/-- The save's outcome is noted with the unmount, save-needed cleared by a success (R39, R59). -/
def State.saveEnded (s : State) (ok : Bool) : State :=
  { s with
    medium := { s.medium with unmount := s.medium.unmount.map fun (u : Unmount) =>
      { u with save := some (if ok then .saved else .notSaved), saveNeeded := !ok } }
    catalog := { s.catalog with work := .idle } }

/-! ### Session ends that make no report -/

/-- An open session ends without a report: RESET DRIVE, loss of the cartridge (R135). -/
def State.dropSession (s : State) : State :=
  if s.writer.state = .idle then s
  else if s.sessionOpen then s.closeSession.currentToEnd
  else { s.emptyStages with writer := { Writer.idle with deferred := s.writer.deferred, opening := s.writer.opening } }

end Sys2Proof.Machine
end

