-- ==== Sys2Proof/Machine/CatWorkOps.lean ====
section
/-! DEFINITION. The Catalog Engine's work on the tape: the fine search (R36, R37), the load (R40), the rebuild (R41 to R44) and
the marker scan (R153), segment by segment. -/

namespace Sys2Proof.Machine

def State.setWork (s : State) (w : CatWork) : State := { s with catalog := { s.catalog with work := w } }

/-- The engine's work ends: its READ slots are freed and its motion comes to a controlled stop naming no resume segment (R154). -/
def State.endWork (s : State) : State := ((s.setWork .idle).freeReads).haltMotion

/-! ### Planning -/

/-- A READ plan for the next segment of a load, a fine search or a marker scan, when the stream reaches it: the slot given, or the lowest FREE one (R98). A next
segment already passed is streamed for again; beyond the data area there is no segment to plan (R82). -/
def State.offerAt (s : State) (o : Owner) (next : SegAddr) (slot : Option Nat) (advance : State → State) : State :=
  if s.transport.standby.isSome || s.transport.stop != .none || atEndOfArea next then s
  else if next.before s.nextSegment then s.requestMotion (.stream o next)
  else if s.nextSegment ≠ next then s
  else match slot with
    | some i => advance { s with transport := { s.transport with standby := some (.read i) } }
    | none => match s.takeFree .loading with
      | some (s1, i) => advance { s1 with transport := { s1.transport with standby := some (.read i) } }
      | none => s

/-! ### The fine search -/

/-- A fine search begins at the stop point of the estimate (R35, R36). -/
def State.beginFine (s : State) (p : FinePurpose) (target : Nat) : State :=
  match extentOf s.catalog.extents target with
  | none => s
  | some (_, e) =>
    let stop := e.stopPoint target
    let f : Fine :=
      { purpose := p, target := target, wrap := e.wrap, first := e.first, last := e.last,
        next := { wrap := e.wrap, seg := stop }, passStart := stop, backups := 0, seenFirst := false, firstEmpty := none,
        lastSeen := none, found := none, retries := 0 }
    (s.setWork (.fine f)).requestMotion (.stream .fineSearch f.next)

/-- What a segment does to a fine search. -/
inductive FineStep where
  | readOn (f : Fine)
  /-- A new pass from its start (R36, R37). -/
  | again (f : Fine)
  | found (l : Location)
  | failed
  deriving DecidableEq, Repr

/-- A new pass from a segment of the extent (R36, R37). -/
def Fine.restart (f : Fine) (start : Int) : Fine :=
  let a := clampUpstream f.wrap f.first start
  { f with next := { wrap := f.wrap, seg := a }, passStart := a, seenFirst := false, firstEmpty := none, lastSeen := none }

/-- The search has started too late: 16 segments upstream; the fifth pass starts at the extent's first segment, and its own
late start fails the search (R36, R37). DESIGN CHOICE (log 67): the back-ups are counted over the whole search, its retries' passes
among them. -/
def Fine.backUp (f : Fine) : FineStep :=
  if 4 ≤ f.backups then .failed
  else if f.backups = 3 then .again ({ f with backups := 4 }.restart f.first)
  else .again ({ f with backups := f.backups + 1 }.restart (upstreamBy f.wrap 16 f.passStart))

/-- The pass cannot find the stripe: 4 segments upstream of its first EMPTY segment, or its start, up to the retry limit
(R37). -/
def Fine.retry (f : Fine) (limit : Nat) : FineStep :=
  if limit ≤ f.retries then .failed
  else
    let start := match f.firstEmpty with
      | some a => upstreamBy f.wrap 4 a
      | none => f.passStart
    .again ({ f with retries := f.retries + 1 }.restart start)

/-- A pass goes on unless the extent's last segment has been read (R37). -/
def Fine.onward (f : Fine) (limit : Nat) (a : SegAddr) : FineStep :=
  if a.seg = f.last then f.retry limit else .readOn f

/-- The location of the target in a copy read (R36). -/
def Fine.locationIn (f : Fine) (a : SegAddr) (h : StripeHeader) (decodable : Bool) : Location :=
  { stripe := h.stripe, wrap := a.wrap, seg := a.seg, atZero := (h.firstOffset == some 0) && (h.firstPiece == f.target),
    headerOnly := !decodable }

/-- One segment of a fine search (R36, R37). -/
def Fine.step (f : Fine) (limit : Nat) (a : SegAddr) (header : Option StripeHeader) (decodable : Bool) : FineStep :=
  match f.found with
  | some (l, left) =>
    match header with
    | some h =>
      if h.stripe = l.stripe ∧ decodable = true then .found (f.locationIn a h true)
      else if left ≤ 1 then .found l else .readOn { f with found := some (l, left - 1) }
    | none => if left ≤ 1 then .found l else .readOn { f with found := some (l, left - 1) }
  | none =>
    match header with
    | none => ({ f with firstEmpty := some (f.firstEmpty.getD a.seg) }).onward limit a
    | some h =>
      if (f.lastSeen.map fun n => decide (h.stripe ≤ n)).getD false then f.onward limit a
      else
        if f.target < h.firstHeader then (if f.seenFirst then f.retry limit else f.backUp)
        else
          let g := { f with seenFirst := true, lastSeen := some h.stripe }
          if 0 < h.starts ∧ h.firstHeader ≤ f.target ∧ f.target < h.firstHeader + h.starts then
            if decodable then .found (f.locationIn a h true)
            else .readOn { g with found := some (f.locationIn a h false, 12) }
          else g.onward limit a

/-! ### Ends of positionings -/

/-- A SPACE ends: the state IDLE, its slots freed, a controlled stop naming no resume segment (R154). -/
def State.endSpace (s : State) (code : Code) (passed : Nat) : State :=
  let s1 := (s.endOp code (.spaced passed)).endWork
  { s1 with reader := { Reader.idle with overlapRaised := s1.reader.overlapRaised } }

/-- Current Block at block b with its location (R18). -/
def State.positionAt (s : State) (b : Nat) (l : Option Location) : State :=
  { s with catalog := { s.catalog with current := b, positionValid := true, location := l } }

/-- The zone read of a rebuild begins (R44). -/
def State.rebuildZones (s : State) : State := ((s.setWork .idle).freeReads).beginLoad true

/-- The location of block b by the rebuild's own record (R44): in the stripe accepted last among those whose headers include it,
since a later session's cut made the headers of earlier ones stale. -/
def Rebuild.locationOf (r : Rebuild) (b : Nat) : Option Location :=
  (r.accepted.reverse.find? fun x => decide (x.firstHeader ≤ b) && decide (b < x.firstHeader + x.starts)).map fun x =>
    { stripe := x.stripe, wrap := x.addr.wrap, seg := x.addr.seg, atZero := x.atZero && (x.firstHeader == b),
      headerOnly := false }

/-- The EOD cut of a rebuild at block b by a location (R44), then the zone read. -/
def State.eodCut (s : State) (b : Nat) (l : Option Location) : State :=
  match l with
  | some l => { s with catalog := s.catalog.cutAt b l }.rebuildZones
  | none => s.rebuildZones

/-- The fine search has found the stripe (R36): LOCATE and SPACE end, RETIRE FROM makes its cartridge memory write (R27), a
rebuild's cut is made (R44). -/
def State.fineFound (s : State) (f : Fine) (l : Location) : State :=
  match f.purpose with
  | .locate => ((s.positionAt f.target (some l)).endOp .ok .none).endWork
  | .retire b => ((s.positionAt f.target (some l)).endWork).requestCm (.retire b (some l))
  | .space old =>
    (s.positionAt f.target (some l)).endSpace .ok (if old ≤ f.target then f.target - old else old - f.target)
  | .eodCut => s.eodCut f.target (some l)

/-- The tape has come to rest after wrap 63 during a fine search: the copy whose header was read is taken (R36, R82). -/
def State.fineAtEnd (s : State) (f : Fine) : State :=
  match f.found with
  | some (l, _) => s.fineFound f l
  | none => s

/-- The fine search has failed (R37, R28, R152, R44). -/
def State.fineFailed (s : State) (f : Fine) : State :=
  match f.purpose with
  | .locate => (s.losePosition.endOp .readFailed .none).endWork
  | .retire _ => (s.losePosition.endOp .readFailed .none).endWork
  | .space _ => s.losePosition.endSpace .readFailed 0
  | .eodCut => s.eodCut f.target (s.catalog.rebuilt.bind fun r => r.locationOf f.target)

/-- A segment of the fine search has ended. -/
def State.fineSegment (s : State) (f : Fine) (a : SegAddr) (r : SegRead) : State :=
  match f.step s.settings.retryLimit a r.header r.outcome.decodable with
  | .readOn g => s.setWork (.fine g)
  | .again g =>
    (((s.setWork (.fine g)).freeReads).demandStop (some g.next)).requestMotion (.stream .fineSearch g.next)
  | .found l => s.fineFound f l
  | .failed => s.fineFailed f

/-! ### The catalog load -/

/-- An image is installed (R40): the table, the zones, the counts and the append point; the catalog is ready with OK. -/
def State.installImage (s : State) (c : ImageContents) : State :=
  let s1 := { s with catalog := { s.catalog with
      blockCount := c.blockCount, markerCount := c.markerCount, append := c.append, zones := c.zones, extents := c.extents
      dirty := false, work := .idle } }
  ((s1.freeSlotsWhere fun t => t.state == .image).haltMotion).catalogReady .ok

/-- A rebuild completes (R44): the zones, dirty set, the catalog ready with the scan's outcome. -/
def State.rebuildReady (s : State) (zones : List Zone) : State :=
  let code := (s.catalog.rebuilt.bind Rebuild.outcome).getD .rebuilt
  let s1 := { s with catalog := { s.catalog with zones := zones, dirty := true, work := .idle, rebuilt := none,
                                                  reports := [], reservations := [] } }
  ((s1.freeSlotsWhere fun t => t.state == .image).haltMotion).catalogReady code

/-- A segment of the catalog band has been read (R40, R44): a passing image is installed; after segment 15 a load goes to
REBUILDING, a rebuild takes the default zones. -/
def State.loadSegment (s : State) (a : SegAddr) (zonesOnly : Bool) (r : SegRead) : State :=
  let s0 := match s.imageSlot with
    | some i => s.modifySlot i fun t => { t with payload := r.payload }
    | none => s
  let s1 := { s0 with transport := { s0.transport with standby := if a.seg = 15 then none else s0.transport.standby } }
  let done := decide (15 ≤ a.seg)
  match r.outcome.decodable, r.header with
  | true, some h =>
    if zonesOnly then
      match parseZones 8 (r.payload.drop 34) with
      | some zs => s1.rebuildReady zs
      | none => if done then s1.rebuildReady Zone.defaults else s1
    else match parseImage h.used r.payload s1.catalog.session with
      | some c => s1.installImage c
      | none => if done then ((s1.freeSlotsWhere fun t => t.state == .image).haltMotion).beginRebuild else s1
  | _, _ =>
    if done then
      if zonesOnly then s1.rebuildReady Zone.defaults
      else ((s1.freeSlotsWhere fun t => t.state == .image).haltMotion).beginRebuild
    else s1

/-! ### Reading a stripe's block headers -/

/-- The blocks that a stripe's payload holds from an offset on (R14, R111): headers met at most `fuel`; the entries of the blocks
ending here, and the block carried on with its stored bytes still to come. A header that fails its test ends the walk, with
`faulted` set. -/
structure StripeBlocks where
  headers : List (BlockHeader × Nat)
  ending : List EndingBlock
  carry : Option (BlockHeader × Nat)
  faulted : Bool
  deriving DecidableEq, Repr

def endingOf (h : BlockHeader) : EndingBlock :=
  { number := h.number, rawLen := h.rawLen, storedLen := h.storedLen, isMarker := h.isMarker }

/-- The headers of a payload from offset `off` on, the next expected number being `expected`. -/
def stripeHeaders : Nat → List Byte → Nat → Nat → StripeBlocks → StripeBlocks
  | 0, _, _, _, acc => acc
  | fuel + 1, bs, off, expected, acc =>
    if bs = [] then acc
    else
      let h := BlockHeader.parse (bs.take 16)
      if bs.length < 16 ∨ h.passes expected = false then { acc with faulted := true }
      else
        let here := { acc with headers := acc.headers ++ [(h, off)] }
        let left := bs.length - 16
        if left < h.storedLen then { here with carry := some (h, h.storedLen - left) }
        else
          stripeHeaders fuel (bs.drop (16 + h.storedLen)) (off + 16 + h.storedLen) (expected + 1)
            { here with ending := here.ending ++ [endingOf h] }

/-- The blocks of a decoded stripe, with the block carried into it from the stripe before (R8, R113). -/
def blocksOf (h : StripeHeader) (payload : List Byte) (carry : Option (BlockHeader × Nat)) : StripeBlocks :=
  let acc0 : StripeBlocks :=
    match carry with
    | some (b, left) =>
      if b.number = h.firstPiece ∧ h.firstOffset ≠ some 0 then
        if payload.length < left then { headers := [], ending := [], carry := some (b, left - payload.length), faulted := false }
        else { headers := [], ending := [endingOf b], carry := none, faulted := false }
      else { headers := [], ending := [], carry := none, faulted := false }
    | none => { headers := [], ending := [], carry := none, faulted := false }
  match h.firstOffset with
  | none => acc0
  | some off => stripeHeaders (payload.length + 1) (payload.drop off) off h.firstHeader acc0

/-! ### The rebuild -/

/-- The scan would accept stripe n of session t (R42, R43). -/
def Rebuild.accepts (r : Rebuild) (n t : Nat) : Bool :=
  match r.last with
  | none => n == 0
  | some (l, u) => (!r.readOn && (t == u) && (n == l + 1)) || (decide (u < t) && decide (n ≤ l + 1))

/-- A copy of a stripe already taken, or in the read-on any stripe of the last session: skipped (R42, R43). -/
def Rebuild.skips (r : Rebuild) (n t : Nat) : Bool :=
  match r.last with
  | none => false
  | some (l, u) => (t == u) && (r.readOn || decide (n ≤ l))

/-- The scan ends (R43, R44): the append point, then the EOD cut when the cartridge memory shows a later retirement, then the
zone read. -/
def State.endRebuild (s : State) (r : Rebuild) (outcome : Code) : State :=
  let after : AppendPoint := match r.last, r.lastAddr with
    | some (l, _), some a => { wrap := a.next.wrap, seg := a.next.seg, stripe := l + 1 }
    | _, _ => { wrap := 0, seg := 16, stripe := 0 }
  let s1 := { s with catalog := { s.catalog with append := after, rebuilt := some { r with outcome := some outcome } } }.endWork
  match r.last with
  | none => s1.rebuildZones
  | some (_, t) =>
    let eod := s1.catalog.eod
    if t ≤ eod.session ∧ eod.block < s1.catalog.blockCount then
      if eod.block = 0 then { s1 with catalog := s1.catalog.cutAll }.rebuildZones
      else s1.beginFine .eodCut eod.block
    else s1.rebuildZones

/-- What the scan has seen, as the reports of one session (R20, R44): its copies, and the segments without a header. -/
def Rebuild.reportsOf (r : Rebuild) (session : Nat) : List SegReport :=
  (r.seen.filter fun x => x.copy.isNone || x.session == session).map fun x => { addr := x.addr, copy := x.copy }

/-- The segment in which a header states that its copy was written (R8). -/
def StripeHeader.addr (h : StripeHeader) : SegAddr := { wrap := h.wrap, seg := h.seg }

/-- A segment seen by the scan (R20, R44), a copy at the segment its header states (R8), a segment without a header where the counter
has it: a copy met replaces a segment without a header, never the other way; a copy that stands for its stripe's copy 0 goes on doing so. -/
def Rebuild.see (r : Rebuild) (a : SegAddr) (header : Option StripeHeader) : Rebuild :=
  match header with
  | none => if r.seen.any fun x => x.addr == a then r else { r with seen := r.seen ++ [{ addr := a, copy := none, session := 0 }] }
  | some h =>
    if r.seen.any fun x => (x.addr == h.addr) && (x.copy == some (h.stripe, 0)) && (x.session == h.session) then r
    else { r with seen := (r.seen.filter fun x => x.addr != h.addr) ++
        [{ addr := h.addr, copy := some (h.stripe, h.copy), session := h.session }] }

/-- The segment taken for copy 0 of an accepted stripe n of a session, no copy 0 header of which has been seen (R11, R20, R44; DEDUCED,
log 26): the first segment without a header, on the wrap of the accepted copy `a` and upstream of it, that lies behind the copies 0
of the session's lower stripes and of earlier sessions and before those of its higher stripes; else that of the accepted copy. -/
def Rebuild.copyZeroOf (r : Rebuild) (session n : Nat) (a : SegAddr) : SegAddr :=
  let fits (x y : Seen) : Bool :=
    match y.copy with
    | none => true
    | some (m, k) =>
      if y.session != session then !y.addr.before a || y.addr.before x.addr
      else if k != 0 || m == n then true
      else if m < n then y.addr.before x.addr else x.addr.before y.addr
  match r.seen.find? fun x => x.copy.isNone && (x.addr.wrap == a.wrap) && x.addr.before a && r.seen.all (fits x) with
  | some x => x.addr
  | none => a

/-- The record of an accepted stripe has a segment for its copy 0 (R20, R44). -/
def Rebuild.withCopyZero (r : Rebuild) (session n : Nat) (a : SegAddr) : Rebuild :=
  if r.seen.any fun x => (x.session == session) && (x.copy == some (n, 0)) then r
  else
    let z := r.copyZeroOf session n a
    { r with seen := (r.seen.filter fun x => x.addr != z) ++ [{ addr := z, copy := some (n, 0), session := session }] }

/-- An extent of the session counted from what the scan has seen (R20, R44), each segment of its range once: a member stripe counts for
copy 0, a copy numbered 1 to 3 as a rewrite, and what they leave of the range are gap segments, one taken for a gap before a stripe's
copy 0 was found in it among them no longer. A merged extent keeps the rewrites it has. -/
def Rebuild.recount (r : Rebuild) (session : Nat) (e : Extent) : Extent :=
  if e.session = session then
    let room := (e.last - e.first).natAbs + 1 - e.stripes
    let copies := (r.seen.filter fun x =>
      (x.session == session) && (x.addr.wrap == e.wrap) && decide (min e.first e.last ≤ x.addr.seg) &&
        decide (x.addr.seg ≤ max e.first e.last) && (match x.copy with | some (_, k) => k != 0 | none => false)).length
    let rewrites := min (if e.merged then e.rewrites else copies) room
    { e with rewrites := rewrites, gaps := room - rewrites }
  else e

/-- The first, or the latest, in recording order of the segments seen that `p` names. -/
def Rebuild.seenEnd (r : Rebuild) (latest : Bool) (p : Seen → Bool) : Option SegAddr :=
  (r.seen.filter p).foldl
    (fun best x => match best with
      | none => some x.addr
      | some b => if (if latest then b.before x.addr else x.addr.before b) then some x.addr else some b) none

/-- The first segment of a new session's extent on the wrap `w` (R20, R44; DEDUCED, log 26): the segment after the latest copy of another
session seen before the session's first copy, which is where the append point stood; with none, the first of the data area, and on a
wrap behind that the wrap's first. -/
def Rebuild.sessionStart (r : Rebuild) (session : Nat) (w : Nat) : Int :=
  let mine := r.seenEnd false fun x => x.copy.isSome && (x.session == session)
  let before (x : Seen) : Bool := match mine with | some m => x.addr.before m | none => true
  let after : SegAddr := match r.seenEnd true fun x => x.copy.isSome && (x.session != session) && before x with
    | some a => a.next
    | none => { wrap := 0, seg := 16 }
  if after.wrap = w then after.seg else firstSeg w

/-- The latest segment, in recording order, of the accepted copies of a session (R43): `a` is the copy just accepted. -/
def latestOf (before : Option SegAddr) (a : SegAddr) : SegAddr :=
  match before with
  | some b => if a.before b then b else a
  | none => a

/-- A stripe is accepted (R42, R44), its copy standing where its header states (R8): a new session first cuts the catalog back; the
stripe joins its extent, made when the session or the wrap has changed, and its blocks are counted. Nothing when the table is
full (R44). DESIGN CHOICE (log 55): with no extent to be had for it the scan ends with the catalog uncut, as though the stripe had
not been offered. DESIGN CHOICE (log 66): of a stripe in which a block header fails the test of R14 the blocks before that header count,
and the scan goes on with the next stripe. -/
def State.rebuildAccept (s : State) (r : Rebuild) (h : StripeHeader) (payload : List Byte) : Option (State × Rebuild) :=
  let a := h.addr
  let fresh := match r.last with | some (_, t) => t != h.session | none => true
  let r0 := r.withCopyZero h.session h.stripe a
  let reports := r0.reportsOf h.session
  let c0 : Catalog := { s.catalog with reports := reports }
  let c1 : Catalog :=
    if fresh && r.last.isSome then
      if h.firstPiece = 0 then c0.cutAll
      else c0.cutAt h.firstPiece { stripe := h.stripe, wrap := a.wrap, seg := a.seg, atZero := true, headerOnly := false }
    else c0
  let carry := if fresh then none else r.carry
  let blocks := blocksOf h payload carry
  let wrap := (wrapOfCopyZero reports h.stripe).getD a.wrap
  let acct : Account :=
    { firstPiece := h.firstPiece, firstOffset := h.firstOffset, starts := h.starts, markers := h.markers,
      ending := blocks.ending }
  let needs := (sessionExtent c1.extents h.session wrap).isNone
  let roomy := if needs then c1.makeRoom none else some c1
  roomy.map fun c2 =>
    let first := if fresh then r0.sessionStart h.session wrap else firstSeg wrap
    let c3 : Catalog := { c2 with
      append := { c2.append with wrap := wrap }
      reservations := if needs then [{ wrap := wrap, first := first }] else [] }
    let c4 := c3.join h.session h.stripe acct
    let c5 := { c4 with extents := c4.extents.map (r0.recount h.session) }
    let mine : Accepted :=
      { stripe := h.stripe, firstHeader := h.firstHeader, starts := h.starts, atZero := h.firstOffset == some 0, addr := a }
    ({ s with catalog := c5 },
      { r0 with
        last := some (h.stripe, h.session), carry := blocks.carry, readOn := false
        later := r.later.filter fun q => decide (h.session < q.session) || ((q.session == h.session) && decide (h.stripe < q.stripe))
        lastAddr := some (latestOf (if fresh then none else r.lastAddr) a)
        accepted := (r.accepted.filter fun x => decide (x.stripe < h.stripe)) ++ [mine] })

/-- A missed stripe's count after one more segment read (R146, R147): after a retry the restart segment and those before it are
passed over. A stripe reclaimed counts none. -/
def Miss.count (m : Miss) (a : SegAddr) : Miss :=
  if m.reclaimed then m
  else if m.armed then { m with left := m.left - 1 }
  else if m.reread.isSome then { m with reread := if m.reread = some a then none else m.reread }
  else if a.before m.opening then m
  else { m with opening := a, armed := true }

/-- A miss is opened at a segment (R146). -/
def Miss.opened (stripe session : Nat) (a : SegAddr) : Miss :=
  { stripe := stripe, session := session, opening := a, firstCopy := none, left := 12, retries := 0, armed := true,
    reread := none, reclaimed := false }

/-- A stripe decoded at a segment whose slot has been reclaimed (R99). -/
def Miss.taken (stripe session : Nat) (a : SegAddr) : Miss := { Miss.opened stripe session a with reclaimed := true }

/-- A HEADER_ONLY copy of the missed stripe has been met at a segment (R146). -/
def Miss.meetCopy (m : Miss) (a : SegAddr) : Miss := { m with firstCopy := some (m.firstCopy.getD a) }

/-- Where a missed stripe was met: its first copy, or the segment that opened the search. -/
def Miss.metAt (m : Miss) : SegAddr := m.firstCopy.getD m.opening

/-- The restart segment of a miss: 4 segments upstream of the first copy met, or of its opening segment, not upstream of `limit`
(R147). -/
def Miss.restart (m : Miss) (limit : SegAddr) : SegAddr :=
  let a := SegAddr.back 4 m.metAt
  if a.before limit then limit else a

/-- A retry of a miss from its restart segment (R147); the reading again of a reclaimed stripe counts as none (log 96). -/
def Miss.again (m : Miss) (start : SegAddr) : Miss :=
  { m with
    retries := if m.reclaimed then m.retries else m.retries + 1
    left := 12, armed := false, reread := some start, reclaimed := false }

/-- The search is for this stripe. -/
def Miss.isFor (m : Miss) (h : StripeHeader) : Bool := (m.stripe == h.stripe) && (m.session == h.session)

/-- A held stripe of the queue: the slot, its header and payload. -/
def State.heldStripe (s : State) (p : StripeHeader → Bool) : Option (Nat × StripeHeader × List Byte) :=
  (lowestStripe s.queue.slots fun t => (t.state == .decoded) && ((t.header.map p).getD false)).bind fun x =>
    (s.slot x.1).header.map fun h => (x.1, h, (s.slot x.1).payload)

/-- A stripe offered (R42): what becomes of the scan. -/
inductive Offered where
  | goesOn (s : State) (r : Rebuild)
  | ends (s : State) (r : Rebuild) (outcome : Code)

/-- A decodable stripe offered to the scan (R42, R43). -/
def State.rebuildOffer (s : State) (r : Rebuild) (h : StripeHeader) (payload : List Byte) : Offered :=
  if r.accepts h.stripe h.session then
    match s.rebuildAccept r h payload with
    | some (s1, r1) => .goesOn s1 r1
    | none => .ends s r .rebuilt
  else if r.skips h.stripe h.session then .goesOn s r
  else .ends s r (if r.readOn then .rebuiltShort else .rebuilt)

/-- The place of a held stripe in recording order: where its search met it first, else where its header states (R8, R41; DEDUCED, log 26). -/
def Rebuild.placeOf (r : Rebuild) (h : StripeHeader) : SegAddr := ((r.closed.find? fun q => q.isFor h).map Miss.metAt).getD h.addr

/-- The held stripe that comes first in recording order (R43). -/
def State.firstHeld (s : State) (r : Rebuild) : Option (Nat × StripeHeader × List Byte) :=
  ((List.range s.queue.slots.length).filterMap fun i =>
      let t := s.slot i
      if t.state == .decoded then t.header.map fun h => (i, h, t.payload) else none).foldl
    (fun best x => match best with
      | none => some x
      | some y => if (r.placeOf x.2.1).before (r.placeOf y.2.1) then some x else some y) none

/-- The held stripe offered next: in the read-on, which goes in recording order, the first in it (R43), else the one of the lowest
number (R41, R99). -/
def State.heldNext (s : State) (r : Rebuild) (recorded : Bool) : Option (Nat × StripeHeader × List Byte) :=
  if recorded then s.firstHeld r else s.heldStripe fun _ => true

/-- The search that the stripes held wait for: that of a stripe which the scan would now accept, and which comes before the held one offered
next, a stripe whose number follows a missing one (R99); with none such a reclaimed stripe, which is offered in its order whatever comes
of it (R42). -/
def Rebuild.awaited (r : Rebuild) (recorded : Bool) (held : Option StripeHeader) : Option Miss :=
  let first (q : Miss) : Bool :=
    match held with
    | some h => if recorded then q.metAt.before (r.placeOf h) else decide (q.stripe ≤ h.stripe)
    | none => true
  (r.later.find? fun q => first q && r.accepts q.stripe q.session).or (r.later.find? fun q => first q && q.reclaimed)

/-- The search of a stripe further on becomes that of the stripe wanted next. -/
def Rebuild.await (r : Rebuild) (q : Miss) : Rebuild := { r with miss := some q, later := r.later.filter fun x => x != q }

/-- The held stripes offered in their order (R41, R43), `fuel` of them at most, till one must wait for a search (R99). -/
def State.rebuildHeld (recorded : Bool) : Nat → State → Rebuild → Offered
  | 0, s, r => .goesOn s r
  | fuel + 1, s, r =>
    let held := s.heldNext r recorded
    match r.awaited recorded (held.map fun x => x.2.1), held with
    | some q, _ => .goesOn s (r.await q)
    | none, none => .goesOn s r
    | none, some (i, h, payload) =>
      match (s.freeSlot i).rebuildOffer r h payload with
      | .ends s1 r1 c => .ends s1 r1 c
      | .goesOn s1 r1 => State.rebuildHeld recorded fuel s1 r1

/-- The first segment of the extent that a missed stripe of a rebuild belongs to (R147): with nothing accepted the first data segment;
for the session at work its extent's first segment, on another wrap that wrap's first; for a new session the segment where
its first copy was met. -/
def State.missLimit (s : State) (r : Rebuild) (m : Miss) : SegAddr :=
  match r.last with
  | none => { wrap := 0, seg := 16 }
  | some (_, t) =>
    if t = m.session then
      match s.catalog.extents.getLast? with
      | some e =>
        if e.wrap = m.opening.wrap then { wrap := e.wrap, seg := e.first }
        else { wrap := m.opening.wrap, seg := firstSeg m.opening.wrap }
      | none => { wrap := 0, seg := 16 }
    else m.metAt

/-- A retry of an expired search, or the reading again of a reclaimed stripe, from the restart segment (R99, R147). -/
def State.rebuildRetry (s : State) (r : Rebuild) (m : Miss) : State :=
  let start := m.restart (s.missLimit r m)
  let r1 := { r with next := start, emptyRun := 0, miss := some (m.again start) }
  ((s.setWork (.rebuild r1)).demandStop (some start)).requestMotion (.stream .rebuild start)

/-- The outcome of a scan that ends with no stripe to end it (R43). -/
def Rebuild.outcomeNow (r : Rebuild) : Code := if r.readOn then .rebuiltShort else .rebuilt

/-- The scan goes on, or with `atEnd`, at the end of wrap 63, ends (R43): an expired search is answered by a retry, or, with none left, by the
read-on over what the scan has read past, in recording order (R43, R147); the fuel bounds the searches. DEDUCED (log 26): the read-on goes
on in the same pass, so the segments without a decodable stripe just before it count in its run of eight, and a stripe still missed at
the end of wrap 63 is taken as expired. -/
def State.rebuildOn (atEnd : Bool) : Nat → State → Rebuild → State
  | 0, s, r => s.setWork (.rebuild r)
  | fuel + 1, s, r =>
    match r.miss with
    | none => if atEnd then s.endRebuild r r.outcomeNow else s.setWork (.rebuild r)
    | some m =>
      if m.reclaimed then s.rebuildRetry r m
      else if atEnd || (m.left == 0) then
        if m.retries < s.settings.retryLimit then s.rebuildRetry r m
        else
          match s.rebuildHeld true Config.slotCount { r with miss := none, readOn := true } with
          | .goesOn s1 r1 => State.rebuildOn atEnd fuel s1 r1
          | .ends s1 r1 c => s1.endRebuild r1 c
      else s.setWork (.rebuild r)

/-- The searches of a scan, of which each may be answered once. -/
def Rebuild.searches (r : Rebuild) : Nat := r.later.length + 2

/-- A segment without a decodable stripe (R43): the eighth in a row ends the scan; before that an open copy search may expire. -/
def State.rebuildBlank (s : State) (r : Rebuild) : State :=
  let r1 := { r with emptyRun := r.emptyRun + 1 }
  if 8 ≤ r1.emptyRun then s.endRebuild r1 r1.outcomeNow else s.rebuildOn false r1.searches r1

/-- The stripe just decoded stays in the READ slot of its plan (R98). -/
def State.keepDecoded (s : State) (i : Nat) (h : StripeHeader) (payload : List Byte) (fails : Nat) : State :=
  if (s.slot i).state = .loading then
    s.modifySlot i fun _ =>
      { Slot.empty with
        state := .decoded, stripe := some h.stripe, copies := h.copy, failedTracks := fails, payload := payload,
        header := some h }
  else s

/-- This very stripe, of its session, is held in a READ slot. -/
def State.holdsFor (s : State) (h : StripeHeader) : Bool :=
  s.queue.slots.any fun t =>
    (t.state == .decoded) && ((t.header.map fun x => (x.stripe == h.stripe) && (x.session == h.session)).getD false)

/-- A stripe decoded while a copy search is open waits in its READ slot (R41, R98), when it is not a copy of one taken. One slot holds a
stripe number: a number already held, of whatever session, is skipped (R89, R98). -/
def State.holdStripe (s : State) (r : Rebuild) (i : Nat) (h : StripeHeader) (payload : List Byte) (fails : Nat) : State :=
  if r.skips h.stripe h.session || s.holdsDecoded h.stripe then s else s.keepDecoded i h payload fails

/-- A stripe met while searches are open is one that the scan will accept when they have found theirs (R41, R42). -/
def Rebuild.foresees (r : Rebuild) (h : StripeHeader) : Bool := { r with last := r.reach, readOn := false }.accepts h.stripe h.session

/-- A stripe met further on than the searches open (R99). -/
def Rebuild.reaches (r : Rebuild) (h : StripeHeader) : Rebuild :=
  if r.foresees h then { r with reach := some (h.stripe, h.session) } else r

/-- A HEADER_ONLY segment (R41, R146): of a stripe that the scan would accept it opens the copy search, while another is open one that
waits for it (R99; DEDUCED, log 26); of a stripe searched for it sets the first copy; of another it is passed. -/
def State.rebuildHeaderOnly (s : State) (r : Rebuild) (h : StripeHeader) (a : SegAddr) : Rebuild :=
  let fresh := (Miss.opened h.stripe h.session a).meetCopy a
  match r.miss with
  | none =>
    if r.accepts h.stripe h.session then { r with miss := some fresh, reach := some (h.stripe, h.session) } else r
  | some m =>
    if m.isFor h then { r with miss := some (m.meetCopy a) }
    else if r.later.any fun q => q.isFor h then
      { r with later := r.later.map fun q => if q.isFor h then q.meetCopy a else q }
    else if r.foresees h && !s.holdsDecoded h.stripe then { r with later := r.later ++ [fresh] }.reaches h
    else r

/-- One segment of the rebuild scan (R41 to R43), read into slot i. A copy of the stripe searched for is offered unless its number is held
in another slot, which has it skipped (R98); a stripe that waits in its slot closes the search for it. -/
def State.rebuildSegment (s : State) (r : Rebuild) (i : Nat) (a : SegAddr) (x : SegRead) : State :=
  let counted : Rebuild := { r with miss := r.miss.map fun m => m.count a, later := r.later.map fun q => q.count a }
  let r0 := counted.see a x.header
  match x.header with
  | none => s.rebuildBlank r0
  | some h =>
    if x.outcome.decodable then
      let r1 := { r0 with emptyRun := 0 }
      if (r1.miss.map fun m => m.isFor h).getD true && !s.holdsDecoded h.stripe then
        match s.rebuildOffer { r1 with miss := none } h x.payload with
        | .ends s2 r2 c => s2.endRebuild r2 c
        | .goesOn s2 r2 =>
          match s2.rebuildHeld false Config.slotCount r2 with
          | .goesOn s3 r3 => s3.rebuildOn false r3.searches r3
          | .ends s3 r3 c => s3.endRebuild r3 c
      else
        let s2 := s.holdStripe r1 i h x.payload (countFails x.fails)
        let mine (q : Miss) : Bool := q.isFor h
        let r2 :=
          if s2.holdsFor h then
            { r1 with later := r1.later.filter fun q => !mine q, closed := r1.closed ++ r1.later.filter mine }.reaches h
          else r1
        s2.rebuildOn false r2.searches r2
    else s.rebuildBlank (s.rebuildHeaderOnly r0 h a)

/-- The tape has come to rest after wrap 63 during a rebuild: the scan ends (R43, R82), a stripe still missed being taken as
expired. -/
def State.rebuildAtEnd (s : State) (r : Rebuild) : State := s.rebuildOn true r.searches r

/-! ### Planning a rebuild -/

/-- The slot of a rebuild's next READ plan (R98, R99, R167): the lowest FREE one, or while a search for the stripe wanted next is open the
highest DECODED one reclaimed. DESIGN CHOICE (log 96): a reclaimed stripe waits among the searches of the stripes further on, in the place
where it was met. -/
def State.takeForRebuild (s : State) (r : Rebuild) : Option (State × Nat × Rebuild) :=
  match s.takeFree .loading with
  | some (t, i) => some (t, i, r)
  | none =>
    if r.miss.isNone then none
    else (highestDecoded s.queue.slots).map fun i =>
      (s.modifySlot i fun _ => { Slot.empty with state := .loading }, i,
        match (s.slot i).header with
        | some h => { r with later := Miss.taken h.stripe h.session (r.placeOf h) :: r.later }
        | none => r)

/-- A rebuild's READ plan (R41, R74), under the read policy of R167: with no slot to take, a controlled stop naming next to plan. -/
def State.offerRebuild (s : State) (r : Rebuild) : State :=
  if s.transport.standby.isSome || s.transport.stop != .none || atEndOfArea r.next then s
  else if r.next.before s.nextSegment then s.requestMotion (.stream .rebuild r.next)
  else if s.nextSegment ≠ r.next then s
  else match s.takeForRebuild r with
    | some (t, i, q) =>
      { t with transport := { t.transport with standby := some (.read i) } }.setWork (.rebuild { q with next := r.next.next })
    | none => s.demandStop (some r.next)

/-- A rebuild stopped for want of a slot may go on: its FREE count has reached the restart threshold (R167). -/
def State.rebuildRestart (s : State) : Option SegAddr :=
  match s.catalog.work with
  | .rebuild r =>
    if s.settings.restartThreshold ≤ s.countState .free && !atEndOfArea r.next then some r.next else none
  | _ => none

/-- The Catalog Engine fills the standby slot (R74). -/
def State.offerCatalog (s : State) : State :=
  match s.catalog.work with
  | .load next z =>
    if 15 < next then s
    else s.offerAt .load { wrap := 0, seg := next } s.imageSlot fun t => t.setWork (.load (next + 1) z)
  | .fine f =>
    if f.found.isNone && (isUpstream f.wrap f.last f.next.seg || f.next.wrap != f.wrap) then s
    else s.offerAt .fineSearch f.next none fun t => t.setWork (.fine { f with next := f.next.next })
  | .rebuild r => s.offerRebuild r
  | .markers m => s.offerAt .markerScan m.next none fun t => t.setWork (.markers { m with next := m.next.next })
  | _ => s

/-! ### The marker scan -/

/-- The markers of a decoded stripe with their locations, below the extent's end, and a failed header test (R153, R14). -/
def markersOf (h : StripeHeader) (payload : List Byte) (a : SegAddr) (endBlock : Nat) : List (Nat × Location) × Bool :=
  let b := blocksOf h payload none
  ((b.headers.filter fun x => x.1.isMarker && decide (x.1.number < endBlock)).map fun x =>
      (x.1.number, { stripe := h.stripe, wrap := a.wrap, seg := a.seg, atZero := x.2 == 0, headerOnly := false }),
    b.faulted && decide (((b.headers.getLast?.map fun x => x.1.number + 1).getD h.firstHeader) < endBlock))

/-- The location of block b's header when it stands in this decoded stripe. -/
def headerIn (h : StripeHeader) (payload : List Byte) (a : SegAddr) (b : Nat) : Option Location :=
  ((blocksOf h payload none).headers.find? fun x => x.1.number == b).map fun x =>
    { stripe := h.stripe, wrap := a.wrap, seg := a.seg, atZero := x.2 == 0, headerOnly := false }

def State.extentAt (s : State) (i : Nat) : Option Extent := s.catalog.extents[i]?

/-- The block after an extent's last. -/
def Extent.endBlock (e : Extent) : Nat := e.firstBlock + e.blocks

/-- Markers passed so far. -/
def MarkerScan.passed (m : MarkerScan) : Nat := m.count - m.left

/-- The scan examines an extent from a stripe: the tape is brought to a segment of it (R153). -/
def State.scanExtent (s : State) (m : MarkerScan) (i : Nat) (want last : Nat) (at_ : SegAddr) : State :=
  let m1 := { m with extent := i, want := want, last := last, next := at_, miss := none, later := [], bare := [], blank := none }
  let s1 := (s.setWork (.markers m1)).freeReads
  if s1.nextSegment = at_ && s1.owner == some .markerScan && s1.transport.stop == .none then s1
  else s1.requestMotion (.stream .markerScan at_)

def Extent.firstAddr (e : Extent) : SegAddr := { wrap := e.wrap, seg := e.first }

def Extent.lastStripe (e : Extent) : Nat := e.firstStripe + e.stripes - 1

/-- FORWARD has reached block count: END_OF_DATA there (R153). -/
def State.spaceToEnd (s : State) (passed : Nat) : State :=
  (s.positionAt s.catalog.blockCount none).endSpace .endOfData passed

/-- BACKWARD has passed block 0: BEGINNING_OF_DATA there (R153). -/
def State.spaceToBeginning (s : State) (passed : Nat) : State :=
  { s with catalog := s.catalog.toBeginning }.endSpace .beginningOfData passed

/-- The first extent from index i on that the scan must read: the one that counts the block read on for, or without one an extent whose
marker count is above 0 (R153). -/
def nextMarked (es : List Extent) (i : Nat) (goal : Option Nat) : Option Nat :=
  (List.range es.length).find? fun j => decide (i ≤ j) && ((es[j]?.map fun e =>
    match goal with
    | some b => decide (b < e.endBlock)
    | none => decide (0 < e.markers)).getD false)

/-- The last extent below index i whose marker count is above 0. -/
def prevMarked (es : List Extent) (i : Nat) : Option Nat :=
  ((List.range i).filter fun j => (es[j]?.map fun e => decide (0 < e.markers)).getD false).getLast?

/-- BACKWARD: the extent has been read (R153). -/
def State.backwardExtentDone (s : State) (m : MarkerScan) : State :=
  let n := m.found.length
  if m.left ≤ n then
    match m.found[n - m.left]? with
    | some (b, l) => (s.positionAt b (some l)).endSpace .ok m.count
    | none => s.spaceToBeginning m.passed
  else
    let m1 := { m with left := m.left - n, found := [] }
    match prevMarked s.catalog.extents m.extent with
    | none => s.spaceToBeginning m1.passed
    | some j =>
      match s.extentAt j with
      | none => s.spaceToBeginning m1.passed
      | some e => s.scanExtent m1 j e.firstStripe e.lastStripe e.firstAddr

/-- The next stripe of the extent is wanted, with the search that a header before it has opened (R146, R154). -/
def MarkerScan.nextStripe (m : MarkerScan) : MarkerScan :=
  { m with
    want := m.want + 1, blank := none
    miss := m.later.find? fun q => q.stripe == m.want + 1
    later := m.later.filter fun q => q.stripe != m.want + 1 }

/-- FORWARD goes on to the next extent that it must read, or has reached block count (R153). -/
def State.forwardExtentDone (s : State) (m : MarkerScan) : State :=
  match nextMarked s.catalog.extents (m.extent + 1) m.goal with
  | none => s.spaceToEnd m.passed
  | some j =>
    match s.extentAt j with
    | none => s.spaceToEnd m.passed
    | some e => s.scanExtent m j e.firstStripe e.lastStripe e.firstAddr

/-- The scan goes on after stripe `want` of its extent has been examined or passed (R153). -/
def State.markersOnward (s : State) (m : MarkerScan) : State :=
  if m.want < m.last then s.setWork (.markers m.nextStripe)
  else if m.forward then s.forwardExtentDone m
  else s.backwardExtentDone m

/-- Stripe `want`, decoded, is examined (R153): FORWARD counts its markers at or above the start, and the n-th gives Current
Block, the header after it being read on for, in the next extent when the marker is the last block that its own counts; BACKWARD collects those below the start. A header that fails its test before what is
looked for has been met is STREAM_FAULT (R14, R154). -/
def State.examine (s : State) (m : MarkerScan) (h : StripeHeader) (payload : List Byte) (a : SegAddr) : State :=
  let endBlock := ((s.extentAt m.extent).map Extent.endBlock).getD 0
  let got := markersOf h payload a endBlock
  match m.goal with
  | some b =>
    match headerIn h payload a b with
    | some l => (s.positionAt b (some l)).endSpace .ok m.count
    | none => if got.2 then s.endSpace .streamFault 0 else s.markersOnward m
  | none =>
    if m.forward then
      let hits := got.1.filter fun x => decide (m.start ≤ x.1)
      if m.left ≤ hits.length then
        match hits[m.left - 1]? with
        | none => s
        | some (b, _) =>
          if b + 1 = s.catalog.blockCount then (s.positionAt (b + 1) none).endSpace .ok m.count
          else
            let m1 := { m with goal := some (b + 1), left := 0 }
            if endBlock ≤ b + 1 then s.forwardExtentDone m1
            else match headerIn h payload a (b + 1) with
              | some l => (s.positionAt (b + 1) (some l)).endSpace .ok m.count
              | none => if got.2 then s.endSpace .streamFault 0 else s.markersOnward m1
      else if got.2 then s.endSpace .streamFault 0
      else s.markersOnward { m with left := m.left - hits.length }
    else if got.2 then s.endSpace .streamFault 0
    else s.markersOnward { m with found := m.found ++ got.1.filter fun x => decide (x.1 < m.start) }

/-- The missed stripe of a marker scan has expired (R147, R154). DESIGN CHOICE (log 52): a SPACE MARKERS that fails reports 0 markers
passed, and so does one ended by STREAM_FAULT, by ABORT or by a motion fault. -/
def State.markersExpired (s : State) (m : MarkerScan) (x : Miss) : State :=
  if x.retries < s.settings.retryLimit then
    let limit := ((s.extentAt m.extent).map Extent.firstAddr).getD x.opening
    let start := x.restart limit
    let m1 := { m with next := start, miss := some (x.again start) }
    ((s.setWork (.markers m1)).demandStop (some start)).requestMotion (.stream .markerScan start)
  else s.losePosition.endSpace .readFailed 0

/-- The stripes met before their turn are taken in it: one held is examined, one that showed no marker is passed, and one whose search has
expired meanwhile is answered (R147, R153, R154). -/
def State.examineHeld : Nat → State → State
  | 0, s => s
  | fuel + 1, s =>
    match s.catalog.work with
    | .markers m =>
      match s.heldStripe fun h => h.stripe == m.want with
      | some (i, h, payload) => State.examineHeld fuel ((s.freeSlot i).examine m h payload { wrap := h.wrap, seg := h.seg })
      | none =>
        if m.goal.isNone && m.bare.contains m.want then State.examineHeld fuel (s.markersOnward { m with miss := none })
        else match m.miss with
          | some q => if q.armed && (q.left == 0) then s.markersExpired m q else s
          | none => s
    | _ => s

/-- The turns that one segment can bring: of the stripes held and of those passed without draining. -/
def MarkerScan.turns (m : MarkerScan) : Nat := Config.slotCount + m.bare.length

/-- A header of stripe n, beyond the one wanted, met at a segment (R146, R153): the searches of the stripes of the extent before it that
have none and are not held are opened, and its own when it read HEADER_ONLY, whose first copy is kept; a decoded one's is closed. -/
def State.meetLater (s : State) (m : MarkerScan) (h : StripeHeader) (a : SegAddr) (decodable : Bool) : MarkerScan :=
  let n := h.stripe
  let known (k : Nat) : Bool := s.holdsDecoded k || m.bare.contains k || m.later.any fun q => q.stripe == k
  let fresh (k : Nat) : Miss := Miss.opened k h.session a
  let passed := ((List.range (min n (m.last + 1) - (m.want + 1))).map (· + (m.want + 1))).filter fun k => !known k
  let m1 := { m with
    miss := some (m.miss.getD (fresh m.want))
    later := m.later ++ passed.map fresh }
  if m.last < n then m1
  else if decodable then { m1 with later := m1.later.filter fun q => q.stripe != n }
  else { m1 with
    bare := if h.markers = 0 && !m1.bare.contains n then m1.bare ++ [n] else m1.bare
    later := if m1.later.any fun q => q.stripe == n then
        m1.later.map fun q => if q.stripe = n then q.meetCopy a else q
      else m1.later ++ [(fresh n).meetCopy a] }

/-- A segment that does not hold stripe `want`: the first without a header is remembered, and with the extent's last segment read
the stripe is missed (R37, R153). -/
def State.passMarkers (s : State) (m : MarkerScan) (a : SegAddr) (empty : Bool) : MarkerScan :=
  let m1 := if empty then { m with blank := some (m.blank.getD a) } else m
  match m1.miss, s.extentAt m1.extent with
  | none, some e =>
    if a.before { wrap := e.wrap, seg := e.last } then m1
    else { m1 with miss := some (Miss.opened m1.want e.session (m1.blank.getD a)) }
  | _, _ => m1

/-- One segment of a marker scan (R153), read into slot i: stripe `want` is examined, passed when its header shows no marker, or missed; a later
stripe of the extent is held for its turn, one beyond the extent is not wanted (R98). -/
def State.markersSegment (s : State) (m : MarkerScan) (i : Nat) (a : SegAddr) (x : SegRead) : State :=
  let m0 := { m with miss := m.miss.map fun q => q.count a, later := m.later.map fun q => q.count a }
  let expire (t : State) (n : MarkerScan) : State :=
    match n.miss with
    | some q => if q.left = 0 then t.markersExpired n q else t.setWork (.markers n)
    | none => t.setWork (.markers n)
  match x.header with
  | none => expire s (s.passMarkers m0 a true)
  | some h =>
    let fits := match extentOfStripe s.catalog.extents h.stripe with
      | some (_, e) => (e.session == h.session) || (e.merged && decide (h.session ≤ e.session))
      | none => false
    if !fits || decide (h.stripe < m0.want) then expire s (s.passMarkers m0 a false)
    else if h.stripe = m0.want then
      let atGoal := m0.goal.isSome && (h.firstOffset == some 0) && (m0.goal == some h.firstPiece)
      if atGoal then
        (s.positionAt h.firstPiece (some { stripe := h.stripe, wrap := a.wrap, seg := a.seg, atZero := true,
                                           headerOnly := !x.outcome.decodable })).endSpace .ok m0.count
      else if h.markers = 0 && m0.goal.isNone then (s.markersOnward { m0 with miss := none }).examineHeld m0.turns
      else if x.outcome.decodable then
        (s.examine { m0 with miss := none } h x.payload a).examineHeld m0.turns
      else match m0.miss with
        | some q => expire s { m0 with miss := some (q.meetCopy a) }
        | none => s.setWork (.markers { m0 with miss := some ((Miss.opened h.stripe h.session a).meetCopy a) })
    else
      let s1 :=
        if x.outcome.decodable && decide (h.stripe ≤ m0.last) && !s.holdsDecoded h.stripe then
          s.keepDecoded i { h with wrap := a.wrap, seg := a.seg } x.payload (countFails x.fails)
        else s
      expire s1 (s1.meetLater m0 h a x.outcome.decodable)

/-- The tape has come to rest after wrap 63 during a marker scan: no segment is left to its copy search (R82, R146). -/
def State.markersAtEnd (s : State) (m : MarkerScan) : State :=
  match m.miss with
  | some x => s.markersExpired m x
  | none => s

/-- A marker scan begins (R153): FORWARD from Current Block's stripe, BACKWARD from the first segment of the extent holding
Current Block. DESIGN CHOICE (log 53): a FORWARD scan's stream begins 4 segments upstream of the location's segment, not upstream of the
extent's first, as a read-ahead's does (R141). -/
def State.beginMarkers (s : State) (forward : Bool) (n : Nat) : State :=
  let c := s.catalog
  let m : MarkerScan :=
    { forward := forward, count := n, left := n, start := c.current, extent := 0, want := 0, last := 0,
      next := { wrap := 0, seg := 16 }, miss := none, later := [], bare := [], blank := none, found := [], goal := none }
  let holder := match c.location with
    | some l => extentOfStripe c.extents l.stripe
    | none => (c.extents.getLast?.map fun e => (c.extents.length - 1, e))
  match holder with
  | none => if forward then s.spaceToEnd 0 else s.spaceToBeginning 0
  | some (i, e) =>
    if forward then
      match c.location with
      | none => s.spaceToEnd 0
      | some l =>
        if 0 < e.markers then
          let a := SegAddr.back 4 { wrap := l.wrap, seg := l.seg }
          s.scanExtent m i l.stripe e.lastStripe (if a.before e.firstAddr then e.firstAddr else a)
        else match nextMarked c.extents (i + 1) none with
          | none => s.spaceToEnd 0
          | some j => match s.extentAt j with
            | none => s.spaceToEnd 0
            | some f => s.scanExtent m j f.firstStripe f.lastStripe f.firstAddr
    else if 0 < e.markers then
      s.scanExtent m i e.firstStripe (match c.location with | some l => l.stripe | none => e.lastStripe) e.firstAddr
    else s.backwardExtentDone { m with extent := i }

end Sys2Proof.Machine
end

