-- ==== Sys2Proof/Machine/FlowOps.lean ====
section
/-! DEFINITION. How one step's consequences reach the operations: the start of an operation's own work after its flush phase
(R134), the reports of a motion fault to the block that asked for the motion (R69, R72), and the settling at the end of a
step. -/

namespace Sys2Proof.Machine

/-! ### Own work -/

/-- LOCATE's own work (R37): the append point, the beginning, or the estimate and fine search. -/
def State.beginLocate (s : State) (t : LocateTarget) : State :=
  let toEnd : MotionReq := .locateEnd s.appendSegment
  match t with
  | .endOfData => s.requestMotion toEnd
  | .beginning => s.requestMotion (.locateEnd { wrap := 0, seg := 16 })
  | .block b =>
    if s.catalog.blockCount ≤ b then s.requestMotion toEnd
    else if b = 0 then s.requestMotion (.locateEnd { wrap := 0, seg := 16 })
    else s.beginFine .locate b

/-- RETIRE FROM's own work (R27, R31): past the end of data; the zone tests of the blocks to be cut; the locate; the write. -/
def State.beginRetire (s : State) (b : Nat) : State :=
  let count := s.catalog.blockCount
  if count < b then s.endOp .endOfData .none
  else
    let overlap := rangeOverlapped s.catalog.zones b count
    let s1 := if overlap then s.raiseOverlap else s
    if overlap && s.settings.zoneStrict then s1.endOp .zoneConflict .none
    else if rangeProtected s.catalog.zones b count then s1.endOp .zoneProtected .none
    else if b < count then s1.beginFine (.retire b) b
    else s1.requestCm (.retire b none)

/-- SPACE's start (R152): the read-ahead discarded, the state SPACING. -/
def State.beginSpacing (s : State) (o : Op) : State :=
  let s1 := s.dropReadAhead
  { s1 with reader := { s1.reader with state := .spacing, request := some o, overlapRaised := false } }

/-- SPACE BLOCKS's own work (R152). DESIGN CHOICE (log 42): a target of 0 takes the header's values of a LOCATE to beginning at
once and moves no tape. -/
def State.beginSpaceBlocks (s : State) (forward : Bool) (n : Nat) : State :=
  let c := s.catalog
  if forward then
    if c.blockCount ≤ c.current + n then (s.positionAt c.blockCount none).endSpace .endOfData (c.blockCount - c.current)
    else s.beginFine (.space c.current) (c.current + n)
  else if c.current < n then { s with catalog := c.toBeginning }.endSpace .beginningOfData c.current
  else if c.current = n then { s with catalog := c.toBeginning }.endSpace .ok n
  else s.beginFine (.space c.current) (c.current - n)

/-- The operation whose flush phase is over begins its own work (R134). An UNLOAD waits for a cartridge memory write under
way. -/
def State.beginOwnWork (s : State) : State :=
  if s.opPhase = some .flushed then
    let s1 := s.setPhase .working
    match s.op with
    | some (.locate t) => s1.beginLocate t
    | some (.readBlocks n) => s.beginRead n
    | some (.spaceBlocks f n) => (s1.beginSpacing (.spaceBlocks f n)).beginSpaceBlocks f n
    | some (.spaceMarkers f n) => (s1.beginSpacing (.spaceMarkers f n)).beginMarkers f n
    | some (.retireFrom b) => s1.beginRetire b
    | some .scanHead => s1.beginScan false
    | some .unload => if s.medium.write.isSome then s else s1.beginUnmount
    | _ => s
  else s

/-! ### Settling -/

/-- A read-ahead that has ended shows IDLE once its stream is at rest (R148). -/
def State.settleReader (s : State) : State :=
  if s.reader.state = .ahead ∧ s.reader.nextDrain = none ∧ s.transport.state.moving = false then
    { s with reader := { s.reader with state := .idle } }
  else s

/-- Stage slots still owed are taken as slots become FREE (R96). -/
def State.settleStages (s : State) : State :=
  let s1 := if s.sessionOpen then s.takeStages else s
  if s1.reading && (s1.reader.ending == none) then s1.takeStage .outflow else s1

/-- What follows at the end of a step. -/
def State.settle (s : State) : State :=
  s.settleScan.settleUnthread.settleReader.beginOwnWork.settleStages

/-! ### Motion faults -/

/-- Who asked for a motion. -/
inductive Asker where
  | owner (o : Owner)
  | locate
  | rewind
  deriving DecidableEq, Repr

def MotionReq.asker : MotionReq → Asker
  | .stream o _ => .owner o
  | .locateEnd _ => .locate
  | .unmountRewind => .rewind
  | .reelRewind => .rewind

/-- The block that asked for the motion under way (R69, R72). -/
def Motion.asker : Motion → Option Asker
  | .idle => none
  | .retension r => some r.asker
  | .rewind r => some r.asker
  | .reacquire r => some r.asker
  | .travel r => some r.asker
  | .stream o => some (.owner o)

/-- A motion fault within an UNLOAD is noted for its rewind (R61): before the unmount image is set aside with the UNLOAD, then with
the image. -/
def State.noteUnloadFault (s : State) : State :=
  match s.medium.state with
  | .mounted => if s.op = some .unload then { s with medium := { s.medium with unloadFault := true } } else s
  | .unmounting =>
    { s with medium := { s.medium with
      unmount := s.medium.unmount.map fun (u : Unmount) => { u with motionFault := true } } }
  | _ => s

/-- The unmount's rewind has met a motion fault (R61): once more, by reel count; after a rewind by reel count the unthread follows. -/
def State.rewindFault (s : State) (byReel : Bool) : State :=
  if s.medium.phase = .rewinding then
    if byReel then
      s.beginUnthread
        { eject := true, code := some ((s.medium.unmount.map Unmount.status).getD .mediumFault), retry := false }
    else s.beginRewind
  else s

/-- A motion fault of the Catalog Engine's own reading outside a mount (R37, R154): what asked for the search ends. -/
def State.searchFault (s : State) (code : Code) : State :=
  match s.catalog.work with
  | .fine f => match f.purpose with
    | .space _ => s.endSpace code 0
    | .locate => (s.endOp code .none).endWork
    | .retire _ => (s.endOp code .none).endWork
    | .eodCut => s
  | .markers _ => s.endSpace code 0
  | _ => s

/-- The report of MOTOR_STALL or POSITION_LOST to the block that asked for the motion (R60, R61, R64, R129, R151, R154, R177, R37),
which takes it while that work exists; a scan that has ended waits for rest with its own status (R177). A copy that has passed its check has made the save succeed (R39), though
the fault come while the segments behind it are still being erased (DEDUCED, log 41). -/
def State.askerFault (s : State) (code : Code) (byReel : Bool) (a : Asker) : State :=
  match a with
  | .locate => match s.op with
    | some (.locate _) => s.endOp code .none
    | _ => s
  | .rewind => s.rewindFault byReel
  | .owner o =>
    match o with
    | .write => s.writeMotionFault code
    | .read => if s.reader.state = .spacing then s.endSpace code 0 else s.readMotionFault code
    | .save => match s.catalog.work with
      | .save _ d => (s.saveEnded (d == some true)).unmountWrite
      | _ => s
    | .fineSearch => s.searchFault code
    | .markerScan => s.searchFault code
    | .scan => if (s.head.scan.bind Scan.ending).isSome then s else s.endScanNow code
    | .cleaning =>
      if s.medium.state = .cleaning then s.beginUnthread { eject := false, code := some code, retry := false } else s
    | .load => s
    | .rebuild => s

/-- MOTOR_STALL or POSITION_LOST (R69, R72): position-valid is cleared (R18); in MOUNTING and REBUILDING the mount and its post-clean
scan end (R57, R177, R178); elsewhere the block that asked for the motion takes the report. -/
def State.reportFault (s : State) (code : Code) (a : Option Asker) : State :=
  let byReel := (s.medium.unmount.map Unmount.motionFault).getD true
  let s1 := s.losePosition.noteUnloadFault
  match s1.medium.state with
  | .mounting => (s1.setScan none).failMount code
  | .rebuilding => (s1.setScan none).failMount code
  | _ => match a with
    | none => s1
    | some b => s1.askerFault code byReel b

/-- The block that takes a motion fault's report (R69, R72): none when an immediate stop has ended what the motion was for, but a
write session goes on behind its immediate stop (R129, R130). -/
def State.faultAsker (s : State) : Option Asker :=
  match s.transport.stop, s.transport.motion.asker with
  | .immediate, some (.owner .write) => some (.owner .write)
  | .immediate, _ => none
  | _, a => a

/-- A request that waits when a motion fault comes: the unmount's rewind is then made by reel count (R61). -/
def MotionReq.afterFault : MotionReq → MotionReq
  | .unmountRewind => .reelRewind
  | r => r

/-- The request that waits for rest, when another block made it, as the fault leaves it. -/
def State.othersWaiting (s : State) : Option MotionReq :=
  (match s.transport.deferred, s.faultAsker with
    | some r, some a => if r.asker = a then none else some r
    | r, _ => r).map MotionReq.afterFault

/-- POSITION_LOST (R72): the gate falls, both plans are emptied, position known is cleared, the tape comes to rest at working
tension; the loss is reported. A request of another block goes on waiting for rest. DEDUCED (log 38): the checks still due
are dropped before the report, so that none of them counts as a fault of its own (R94, R125). -/
def State.positionLost (s : State) : State :=
  let asker := s.faultAsker
  let waiting := s.othersWaiting
  let s1 := s.closeGate.emptyPlans
  let s2 := { s1 with
    tape := { s1.tape with flights := [] }
    transport := { s1.transport with
      known := false, missing := 0, stop := .immediate, deferred := waiting, runUp := 0, startAt := none, unhanded := 0 } }
  s2.syncPending.reportFault .positionLost asker

/-- MOTOR_STALL outside THREAD_MOTION (R69): the gate falls, both plans are emptied, RELAXED at hold tension with the
synthesizer OFF; the stall is reported. A request of another block is made again from RELAXED. -/
def State.motorStalled (s : State) : State :=
  let asker := s.faultAsker
  let waiting := s.othersWaiting
  let s1 := (s.closeGate.emptyPlans).enterTransport .relaxed
  let s2 := { s1 with
    tape := { s1.tape with flights := [] }
    transport := { s1.transport with motion := .idle, stop := .none, deferred := none, runUp := 0, startAt := none, unhanded := 0 } }
  let s3 := s2.syncPending.reportFault .motorStall asker
  match waiting with
  | some r => s3.requestMotion r
  | none => s3

end Sys2Proof.Machine
end

