-- ==== Sys2Proof/Machine/BoundaryOps.lean ====
section
/-! DEFINITION. A segment boundary whole (R70, R74): the end of the segment, the turnaround and the controlled stop, the plans,
the check lag and the gate, and the results to the Head Monitor; tape passed (R86), missing marks (R72), mark corrections
(R71). -/

namespace Sys2Proof.Machine

/-! ### Tape passed and marks -/

/-- The tach counts of one pass of a cleaning run: 2,400 segments (R63). -/
def cleaningPass : Nat := 153600

/-- Tape passed under the head, in tach counts (R86): each 1,000 segments bring a kilosegment event, and the remainder below is
held. A cleaning pass counts its own distance (R63). THREAD_MOTION and PARKED are not counted. -/
def State.passTach (s : State) (n : Nat) : State :=
  match s.transport.state with
  | .threadMotion => s
  | .parked => s
  | _ =>
    let total := s.transport.passedTach + n
    { s with
      transport := { s.transport with
        passedTach := total % 64000, kilosegments := s.transport.kilosegments + total / 64000 }
      medium := if s.owner = some .cleaning then
          { s.medium with passCounts := min cleaningPass (s.medium.passCounts + n) }
        else s.medium }

/-- Marks are expected: LOCATING, STREAMING or BACKHITCH, outside a rewind by reel count, a re-acquisition and a cleaning run (R72); the
BACKHITCH of a stop given in one of the first two is outside it. -/
def State.marksExpected (s : State) : Bool :=
  (match s.transport.state with | .locating => true | .streaming => true | .backhitch => true | _ => false)
    && (match s.transport.motion with
        | .rewind _ => s.transport.state != .locating | .reacquire _ => s.transport.state != .streaming | .stream .cleaning => false | _ => true)

/-- The missing-mark count at a boundary (R72): it rises at one of the data area that no capture since the previous boundary
preceded. -/
def State.countMark (s : State) : State :=
  let missed := s.marksExpected && inDataArea s.transport.pos.seg && !s.transport.markSeen
  { s with transport := { s.transport with
      markSeen := false, missing := if missed then s.transport.missing + 1 else s.transport.missing } }

/-- The eighth missing mark (R72). -/
def State.lossDue (s : State) : Bool := decide (8 ≤ s.transport.missing)

/-! ### The end of a segment -/

/-- The synthesizer becomes LOCKED at the boundary that ends its segment of acquisition (R85). -/
def State.lockSynth (s : State) : State :=
  let acquired := s.transport.synth == .acquiring &&
    ((s.transport.startAt.isSome && decide (s.transport.runUp ≤ 1)) || (match s.transport.active with | some (.acquiring _) => true | _ => false))
  if acquired then { s with transport := { s.transport with synth := .locked, lockedStep := s.transport.step } } else s

/-- The synthesizer becomes ACQUIRING at the start of a segment passed at the step's speed, unless it is LOCKED at the step in
effect (R85). -/
def State.acquireSynth (s : State) : State :=
  if s.transport.synth = .locked ∧ s.transport.lockedStep = s.transport.step then s
  else { s with transport := { s.transport with synth := .acquiring } }

/-- A READ plan is carried out only with the synthesizer LOCKED at the step in effect (R85). -/
def State.readCarried (s : State) : Bool :=
  (s.transport.synth == .locked) && (s.transport.lockedStep == s.transport.step)

/-- The per-track results of a segment that did not read EMPTY (R143). -/
def State.readResults (s : State) (r : SegRead) : State :=
  if r.outcome = .empty then s else s.headResults r.fails r.levels

/-- A segment not read, as EMPTY (R142). -/
def unread : SegRead := { fails := [], levels := [], outcome := .empty, header := none, payload := [] }

/-- A segment of the Catalog Engine's reading has ended, read into slot i. -/
def State.catalogSegment (s : State) (i : Nat) (a : SegAddr) (r : SegRead) : State :=
  match s.catalog.work with
  | .load _ z => s.loadSegment a z r
  | .fine f => s.fineSegment f a r
  | .rebuild b => s.rebuildSegment b i a r
  | .markers m => s.markersSegment m i a r
  | _ => s

/-- A READ slot whose segment has left it without a stripe becomes FREE (R98). -/
def State.freeLoading (s : State) (i : Nat) : State := if (s.slot i).state = .loading then s.freeSlot i else s

/-- The slot of a READ plan still bound to it: LOADING, or a load's IMAGE (R98, R101). -/
def State.planBound (s : State) (i : Nat) : Bool := ((s.slot i).state == .loading) || ((s.slot i).state == .image)

/-- The end of a segment that passed under a READ plan (R98): what the slot's stripe is read for takes it, or the slot becomes
FREE. The outcome of a plan whose slot has been freed meanwhile is disregarded (R100); its per-track results are handed (R143). -/
def State.endRead (s : State) (o : Owner) (i : Nat) (a : SegAddr) (reads : List TrackRead) (underrun : Bool) : State :=
  let carried := s.readCarried
  let r := if carried then readSegment a reads underrun else unread
  if !s.planBound i then s.readResults r
  else match o with
    | .read => (if carried then s.readOutcome i a r else s.readNothing i a).readResults r
    | _ => ((s.readResults r).catalogSegment i a r).freeLoading i

/-- The effects of the end of segment `a` on its owner (R74, R98, R124): the gate falls, a copy written whole moves the append point
or a gap is reported, a read outcome is handed, a segment passed unread counts in the searches (R146), a scan's pass ends
(R176). -/
def State.endSegment (s : State) (o : Owner) (a : SegAddr) (reads : List TrackRead) : State :=
  let wrote := s.tape.writing.isSome
  let s0 := s.closeGate
  let s1 := { s0 with tape := { s0.tape with
    flights := if wrote && s.tape.underrun then
        s0.tape.flights.map fun (f : Flight) => if f.addr == a then { f with underrun := true } else f
      else s0.tape.flights } }
  match s.transport.active with
  | some (.read i) => s1.endRead o i a reads s.tape.underrun
  | p =>
    match o with
    | .write => if !s1.sessionOpen then s1 else if wrote then s1.copyWritten a else s1.reportGap a
    | .read =>
      let counts := match p with
        | some (.acquiring _) => true
        | _ => s1.reader.jump
      if counts then (s1.countSegment a).expireSearches else s1
    | .scan => if a.wrap = 0 ∧ a.seg = 1 then s1.scanPassEnd else s1
    | _ => s1

/-! ### Saving the catalog -/

/-- The header of the catalog stripe's copy (R3). -/
def State.catalogHeader (s : State) (copy : Nat) (a : SegAddr) : StripeHeader :=
  let used := match s.imageSlot with | some i => (s.slot i).fill | none => 0
  { stripe := 0, session := (s.medium.unmount.map Unmount.session).getD 0, firstPiece := 0, firstOffset := none, copy := copy,
    used := used, wrap := a.wrap, seg := a.seg, isData := false, starts := 0, markers := 0 }

/-- A save plans its first copy for segment 2, and after a gate refusal the same copy again (R3, R76). -/
def State.offerSave (s : State) : State :=
  match s.catalog.work with
  | .save k none =>
    if s.transport.standby.isNone && s.tape.flights.isEmpty && inDataArea s.nextSegment.seg
        && decide (2 ≤ s.nextSegment.seg) && decide (s.nextSegment.seg ≤ 12)
        && (match s.transport.active with | some (.catalogCopy _) => false | _ => true) then
      { s with transport := { s.transport with standby := some (.catalogCopy k) } }
    else s
  | _ => s

/-- The gate test of a catalog copy (R3, R76). -/
def State.beginCatalogCopy (s : State) (a : SegAddr) : State :=
  match s.transport.active with
  | some (.catalogCopy k) =>
    if s.gateOpens then
      let f : Flight := { addr := a, slot := none, stripe := 0, copy := k, underrun := false }
      { s with tape := { s.tape with gate := true, writing := some (s.catalogHeader k a), flights := s.tape.flights ++ [f] } }
    else s
  | _ => s

/-- The verdict on a catalog copy (R3, R39): success, the next copy, or after copy 3 the failure. -/
def State.catalogVerdict (s : State) (f : Flight) (fails : Nat) : State :=
  match s.catalog.work with
  | .save k none =>
    match verdictOf s.settings.rewriteThreshold fails f.copy with
    | .confirmed => s.setWork (.save k (some true))
    | .rewrite =>
      let s1 := s.setWork (.save (f.copy + 1) none)
      match s1.transport.active with
      | some .gap => { s1 with transport := { s1.transport with active := some (.catalogCopy (f.copy + 1)) } }
      | _ => s1
    | .failed => s.setWork (.save k (some false))
  | _ => s

/-- A save whose stream has come to its stop is over when no check of a copy is outstanding, so that the commit of the mount behind the
unmount's write counts every check (R39, R60, R182). -/
def State.saveStopped (s : State) : State :=
  match s.owner, s.transport.state, s.catalog.work with
  | some .save, .backhitch, .save _ d =>
    if s.tape.flights = [] then (s.saveEnded (d == some true)).unmountWrite else s
  | _, _, _ => s

/-! ### The start of a segment -/

/-- The owner fills the standby slot when it is empty (R74); a pending step takes it first, and the owner then loads no plan (R75, R162).
DESIGN CHOICE (log 71): the Read Controller answers such a plan when it next offers one of its own, or at the boundary that makes the plan
active if that comes first (R164). -/
def State.refill (s : State) : State :=
  if s.transport.stop = .none then
    let s1 := s.takePending
    match s1.owner with
    | some .write => s1.offerWrite
    | some .read =>
      if s.transport.standby.isNone && s1.transport.standby.isSome && !s1.planPassed then s1 else s1.offerRead
    | some .save => s1.offerSave
    | some .load => s1.offerCatalog
    | some .rebuild => s1.offerCatalog
    | some .fineSearch => s1.offerCatalog
    | some .markerScan => s1.offerCatalog
    | _ => s1
  else s

/-- The standby plan becomes active, or the default plan; an ACQUIRING plan changes the step in effect (R74, R75, R85). -/
def State.activate (s : State) : State :=
  let p := s.transport.standby.getD (defaultPlan s.owner)
  let s1 := { s with transport := { s.transport with active := some p, standby := none } }
  match p with
  | .acquiring k =>
    ({ s1 with transport := { s1.transport with
        step := k, pendingStep := if s1.transport.pendingStep = some k then none else s1.transport.pendingStep } }).acquireSynth
  | _ => s1

/-- The check due at the start of segment `a`: the copy written three data ordinals before it, at a boundary of the data area
(R125). -/
def State.flightDue (s : State) (a : SegAddr) : Option Flight :=
  if inDataArea a.seg then s.tape.flights.find? fun f => decide (ordinal f.addr + 3 = ordinal a) else none

/-- What a check leaves: its verdict applied, with the stripe that failed permanently. -/
structure Checked where
  state : State
  failed : Option Nat

/-- One check's verdict on the queue or the save (R94, R126). -/
def State.takeCheck (s : State) (f : Flight) (fails : List Bool) : Checked :=
  let s1 := { s with tape := { s.tape with flights := s.tape.flights.filter fun g => g != f } }
  let n := countedFails s.head.table fails
  match f.slot with
  | none => { state := s1.catalogVerdict f n, failed := none }
  | some _ =>
    match s1.flightSlot f with
    | none => { state := s1, failed := none }
    | some i =>
      let v := verdictOf s.settings.rewriteThreshold n (s1.slot i).copies
      let s2 := s1.applyVerdict i v (countFails fails)
      { state := s2, failed := if v = .failed then some f.stripe else none }

/-- A stripe returned by this verdict takes the place of a default GAP in the segment at hand (R127). -/
def State.placeRewrite (s : State) (a : SegAddr) : State :=
  match s.transport.active with
  | some .gap =>
    if s.owner = some .write ∧ s.writingEnded = false then
      match s.nextWrite with
      | some (i, n, k) =>
        if 0 < k && s.spaced n a then
          match s.reserveFor k a with
          | some s1 =>
            let s2 := s1.modifySlot i fun t => { t with planned := true }
            { s2 with transport := { s2.transport with active := some (.write i n k) } }
          | none => s
        else s
      | none => s
    else s
  | _ => s

/-- The write elements carry erase current through a segment that a write session or a save passes without writing (R12, R76). -/
def State.eraseGap (s : State) : State :=
  let erases := ((s.owner == some .write) || (s.owner == some .save)) && !s.tape.gate
  { s with tape := { s.tape with erase := erases } }

/-- The Write Controller's reading of the DEAD count at a boundary of its stream (R124): HEAD_FAULT, and while writing has ended the
discard point follows the stripes returned (R129, R130). -/
def State.writeBoundary (s : State) : State :=
  if s.owner = some .write then s.headFaultTest.lowerPoint else s

/-- The check due at the boundary that begins segment `a`, taken: the verdict applied, or nothing when none is due (R125, R126). -/
def State.checkAt (s : State) (a : SegAddr) (reads : List TrackRead) : Checked :=
  match s.flightDue a with
  | some f => s.takeCheck f (failMarks reads f.underrun)
  | none => { state := s, failed := none }

/-- The permanent failure that a check has found (R129). -/
def State.answerFailure (s : State) (failed : Option Nat) : State :=
  match failed with
  | some n => s.permanentFailure n
  | none => s

/-- The per-track results of the check due as `due`, handed to the Head Monitor last (R125, R128). -/
def State.checkResults (s : State) (due : Option Flight) (reads : List TrackRead) : State :=
  match due with
  | some f => s.headResults (failMarks reads f.underrun) ((eighteen reads).map trackLevel)
  | none => s

/-- The check at a boundary that begins segment `a` with no plan of an owner made active: its verdict is taken all the same (R125),
with what the Write Controller does at each boundary (R124, R129). -/
def State.checkOnly (s : State) (a : SegAddr) (reads : List TrackRead) : State :=
  let c := s.checkAt a reads
  (c.state.answerFailure c.failed).writeBoundary.trySessionEnd

/-- The start of data segment `a` in a stream (R74 to R76, R93, R124 to R130, R165, R176), `reads` being the check's: the plan
becomes active, the standby slot is refilled, the verdict is applied, the gate is tested, and the session's faults, ends and
stops follow; the Head Monitor takes the results last. -/
def State.beginSegment (s : State) (a : SegAddr) (reads : List TrackRead) : State :=
  let s1 := s.activate.syncPending.refill
  let due := s1.flightDue a
  let c := s1.checkAt a reads
  let returned := match due with | some f => (f.slot.isSome && (c.state.holdsStripe f.stripe)) | none => false
  let s2 := if returned then c.state.placeRewrite a else c.state
  let s3 := ((s2.beginWriting a).beginCatalogCopy a).eraseGap
  let s6 := (s3.answerFailure c.failed).writeBoundary.trySessionEnd
  let s7 := if s6.owner = some .write then s6.writeStopTest else s6
  let s8 := if s7.owner = some .scan ∧ a.wrap = 0 ∧ a.seg = 0 then
      s7.setScan (s7.head.scan.map Scan.beginPass) else s7
  let s9 := if s8.owner = some .save ∧ 15 ≤ a.seg then s8.demandStop none else s8
  s9.checkResults due reads

/-! ### Stops and turnarounds -/

/-- A READ plan emptied from the standby slot is planned again when it is next reached (R142); the extent that it was the last segment
of is the reading extent till then, when the next one does not follow on. -/
def State.unplan (s : State) (a : SegAddr) : State :=
  match s.transport.standby with
  | some (.read _) =>
    if s.owner = some .read ∧ s.reader.nextPlan = some a.next then
      { s with reader := { s.reader with
          nextPlan := some a, atEnd := false, jump := false
          extent := if s.reader.jump then s.reader.extent.map (· - 1) else s.reader.extent } }
    else s
  | _ => s

/-- A controlled stop begins at the boundary that begins segment `a` (R80): BACKHITCH, the standby slot emptied. -/
def State.beginStop (s : State) (a : SegAddr) (resume : Option SegAddr) : State :=
  let s1 := ((s.unplan a).emptyStandby).enterTransport .backhitch
  let s2 := { s1 with transport := { s1.transport with stop := .controlled resume, runUp := 0, startAt := none, unhanded := 0 } }
  s2.syncPending

/-- The stop demanded begins at the boundary that begins segment `a`, unless an immediate stop has come in its place (R80, R83). -/
def State.beginDemanded (s : State) (a : SegAddr) : State :=
  match s.transport.stop with
  | .demanded resume => s.beginStop a resume
  | _ => s

/-- The boundary that ends a wrap (R81, R82): the turnaround, a stop demanded carried out within it; after wrap 63 the stream
ends. -/
def State.endWrap (s : State) : State :=
  if s.transport.pos.wrap < 63 then
    match s.transport.stop with
    | .demanded r =>
      let first : SegAddr := { wrap := s.transport.pos.wrap + 1, seg := firstSeg (s.transport.pos.wrap + 1) }
      let s1 := ((s.unplan first).emptyStandby.enterTransport .turnaround).syncPending
      { s1 with transport := { s1.transport with stop := .controlled r } }
    | _ => s.enterTransport .turnaround
  else
    let s1 := s.emptyStandby.syncPending
    { s1 with transport := { s1.transport with active := some .pass, stop := .endOfArea } }

/-- The counter passes a boundary downstream or upstream (R70), in the direction the tape moves. -/
def State.moveOn (s : State) (upstream : Bool) : State :=
  let p := s.transport.pos
  { s with transport := { s.transport with pos := if upstream then p.prevSegment else p.nextSegment, against := upstream } }

/-- A boundary passed in a state that counts no missing mark, or in a cleaning run (R72): a capture before it does not stand for a later
boundary. -/
def State.moveUncounted (s : State) (upstream : Bool) : State :=
  let s1 := s.moveOn upstream
  { s1 with transport := { s1.transport with markSeen := false } }

/-- A boundary passed, with the mark it may have missed (R70, R72): the eighth in a row is POSITION_LOST. -/
def State.passBoundary (s : State) (upstream : Bool) : State :=
  let s1 := (s.moveOn upstream).countMark
  if s1.lossDue then s1.positionLost else s1

/-- A boundary that the stream has handed, passed again after the counter was carried back over it (R70, R71): it is not handed again,
and the plan active runs on to the first boundary not yet handed (DEDUCED, log 74), a stop demanded and the end of a wrap with it. -/
def State.repassBoundary (s : State) : State :=
  { s with transport := { s.transport with unhanded := s.transport.unhanded - 1 } }.passBoundary false

/-- A boundary passed upstream in a stream (R70): like one that a mark carries the counter back over, it is not handed when it is
passed again (DEDUCED, log 74). -/
def State.backOver (s : State) : State :=
  { s with transport := { s.transport with unhanded := s.transport.unhanded + 1 } }.passBoundary true

/-- A boundary of a stream that carries no owner's work, as a re-acquisition, or of a locate motion (R70, R77, R79): a stop demanded
begins there, in a locate motion in either direction (R79, R80; log 63). DESIGN CHOICE (log 56): the segments of a re-acquisition,
which no run-up of R78 precedes, leave the synthesizer as it was. -/
def State.barrenBoundary (s : State) (upstream : Bool) : State :=
  let s1 := s.passBoundary upstream
  match s1.transport.state, s1.transport.stop, upstream with
  | .streaming, .demanded r, false => s1.beginStop s1.transport.pos.addr r
  | .locating, .demanded r, _ => s1.beginStop s1.transport.pos.addr r
  | _, _, _ => s1

/-- A boundary of a BACKHITCH (R80): in its deceleration downstream the checks that fall due are handed (R125). DESIGN CHOICE (log 83): the
Write Controller reads the DEAD count there (R124) only at a boundary where a check falls due. -/
def State.backhitchBoundary (s : State) (upstream : Bool) (reads : List TrackRead) : State :=
  let s1 := s.passBoundary upstream
  let here := s1.transport.pos.addr
  if upstream || (s1.transport.stop == .immediate) || (s1.flightDue here).isNone then s1
  else ((s1.checkOnly here reads).checkResults (s1.flightDue here) reads).saveStopped

/-- The run-up after a boundary (R78): it is over with the boundary that begins the stream's first segment `t`, the second of its
segments acquires (R85), and what its plan's refusal may end is ended (R130). A counter that a mark has set back passes further
segments with PASS until it reaches `t` (R71). -/
def State.runOn (s : State) (t : SegAddr) : State :=
  if s.transport.pos.addr.before t then
    let s1 := { s with transport := { s.transport with runUp := s.transport.runUp - 1 } }
    if s1.transport.runUp ≤ 1 then s1.acquireSynth.refill.trySessionEnd else s1
  else { s with transport := { s.transport with runUp := 0, startAt := none } }

/-- The tracks that the write elements carry in the segment now passing (R6, R10, R102): none while the gate is closed. -/
def State.drivenNow (s : State) : List (List Byte) :=
  match s.tape.writing, s.transport.active with
  | some h, some (.write i _ _) => drivenTracks h (s.slot i).payload s.tape.lost
  | some h, some (.catalogCopy _) =>
    drivenTracks h ((s.imageSlot.map fun i => (s.slot i).payload).getD []) s.tape.lost
  | _, _ => []

/-- A boundary downstream while STREAMING under an owner. DESIGN CHOICE (log 49): at the boundary of the eighth missing mark (R72) the
segment that ends is told to the owner first (R74, R124) and may end an acquisition (R85); then the position is lost, and the segment that
would begin there is not begun. -/
def State.streamBoundary (s : State) (o : Owner) (r : BoundaryReads) : State :=
  let ended := s.transport.pos.addr
  let runningUp := s.transport.startAt.isSome
  let wrapEnds := !runningUp && decide (ended.seg = lastSeg ended.wrap)
  let s0 := ((s.moveOn false).countMark)
  let s1 := if runningUp || !inDataArea ended.seg then s0 else s0.endSegment o ended r.ended
  if s1.lossDue && s1.marksExpected then s1.lockSynth.positionLost
  else if s1.owner ≠ some o ∨ s1.transport.stop = .immediate then s1
  else
    let s2 := s1.lockSynth
    let here := s2.transport.pos.addr
    if wrapEnds then s2.writeBoundary.trySessionEnd.endWrap
    else match s2.transport.stop with
      | .demanded _ =>
        (((s2.checkOnly here r.check).beginDemanded here).checkResults (s2.flightDue here) r.check).saveStopped
      | .none =>
        let s3 := match s2.transport.startAt with
          | some t => s2.runOn t
          | none => s2
        if s3.transport.startAt.isSome then s3.writeBoundary.trySessionEnd
        else s3.beginSegment here r.check
      | _ => s2

/-- A stop under way brings the tape to rest, within a turnaround before the new wrap's first segment (R81, R83). -/
def Stop.rests : Stop → Bool
  | .immediate => true | .controlled _ => true | _ => false

/-- The boundary that begins the next wrap's first segment ends TURNAROUND (R81). DESIGN CHOICE (log 58): that boundary does not raise the
missing-mark count (R72). -/
def State.turnaroundBoundary (s : State) (r : BoundaryReads) : State :=
  let a := s.nextSegment
  let s1 := { s with transport := { s.transport with
    state := .streaming, pos := { wrap := a.wrap, seg := a.seg, tach := 0 }, against := false, markSeen := false } }
  match s.transport.stop with
  | .demanded _ => ((s1.checkOnly a r.check).beginDemanded a).checkResults (s1.flightDue a) r.check
  | _ => s1.beginSegment a r.check

/-- A boundary passed in the direction given, by the state the transport is in (R70). -/
def State.crossBoundary (s : State) (upstream : Bool) (r : BoundaryReads) : State :=
  match s.transport.state with
  | .streaming =>
    match s.transport.motion, upstream, s.transport.stop.ends with
    | .stream .cleaning, u, _ => s.moveUncounted u
    | .stream o, false, false => if 0 < s.transport.unhanded then s.repassBoundary else s.streamBoundary o r
    | .stream _, true, false => s.backOver
    | .stream _, u, _ => s.passBoundary u
    | _, u, _ => s.barrenBoundary u
  | .turnaround =>
    let begins := !upstream && (s.transport.pos.nextSegment.addr == s.nextSegment)
    if begins && !s.transport.stop.rests then s.turnaroundBoundary r else s.moveUncounted upstream
  | .locating => s.barrenBoundary upstream
  | .backhitch => s.backhitchBoundary upstream r.check
  | _ => s.moveUncounted upstream

/-! ### Head steps -/

/-- The wrap that a manoeuvre takes the head to (R77, R79, R80): a locate motion's, wrap 0 in a rewind, a resume segment's. -/
def State.headTarget (s : State) : Option Nat :=
  match s.transport.state, s.transport.motion, s.transport.stop with
  | _, _, .immediate => none
  | .locating, .travel req, _ => some req.restPoint.wrap
  | .locating, .rewind _, _ => some 0
  | .backhitch, _, .controlled (some a) => some a.wrap
  | _, _, _ => none

/-- One head step toward the manoeuvre's wrap, which turns the recording direction round (R70, R79). -/
def State.headStep (s : State) : State :=
  match s.headTarget with
  | none => s
  | some w =>
    if s.transport.pos.wrap = w then s
    else { s with transport := { s.transport with
      pos := s.transport.pos.stepToward w, against := !s.transport.against } }

/-- A boundary passed, and in a manoeuvre that goes to another wrap one head step behind it (R70, R79). DESIGN CHOICE (log 19): the
rules fix no instant for the steps; the model makes one at each boundary and the rest as the manoeuvre reaches its point. -/
def State.boundary (s : State) (upstream : Bool) (r : BoundaryReads) : State :=
  let t := s.crossBoundary upstream r
  if s.headTarget.isSome then t.headStep else t

/-! ### Servo marks -/

/-- The point of a mark in tach counts from the wrap's zero point along the recording direction (R71). -/
def markPoint (wrap : Nat) (seg : Nat) : Int := ({ wrap := wrap, seg := seg, tach := 0 } : Pos).along

/-- The mark captured stands for every boundary that its correction hands (R71, R72). -/
def State.seeMark (s : State) : State := { s with transport := { s.transport with missing := 0, markSeen := true } }

/-- Boundaries handed at a forward correction, each once and in order (R71). -/
def State.catchUp : Nat → List BoundaryReads → State → State
  | 0, _, s => s
  | n + 1, rs, s =>
    State.catchUp n (rs.drop 1) (s.seeMark.crossBoundary false (rs.headD { ended := [], check := [] })).seeMark

/-- Where a mark sets the counter (R71): its segment at tach 0, and moving against the recording direction the segment upstream of it at
tach 63. -/
def State.markSets (s : State) (seg : Nat) : Pos :=
  let q : Pos := { wrap := s.transport.pos.wrap, seg := seg, tach := 0 }
  if s.transport.against then q.prevSegment else q

/-- A capture in LOCATING, STREAMING or BACKHITCH (R71): the missing-mark count returns to 0, and a counter more than 4 counts
off is set to the mark. A correction forward hands the boundaries it carries the counter over; one back in a stream leaves those it carries
the counter over unhanded when they are passed again (DEDUCED, log 74), and the plan active runs on, a copy's gate open as it was though the
mark lie in the catalog band (DESIGN CHOICE, log 75). DESIGN CHOICE (log 43): outside a stream a correction made while the tape moves
against the recording direction hands no boundary, on whichever side of the counter the mark lies. -/
def State.captureMark (s : State) (seg : Nat) (reads : List BoundaryReads) : State :=
  let s0 := s.seeMark
  let p := s0.transport.pos
  let d := p.along - markPoint p.wrap seg
  if d.natAbs ≤ 4 then s0
  else
    let s1 := { s0 with transport := { s0.transport with slips := satAdd max16 s0.transport.slips 1 } }
    let q := s1.markSets seg
    let ahead := (q.seg - p.seg) * recStep p.wrap
    let streaming := s1.transport.state == .streaming
    let s2 := if s1.transport.against && !streaming then s1 else State.catchUp ahead.toNat reads s1
    if s2.transport.pos.wrap = p.wrap then
      { s2 with transport := { s2.transport with
          pos := q, against := s1.transport.against
          unhanded := s2.transport.unhanded + if streaming then (-ahead).toNat else 0 } }
    else s2

/-- The first mark of a re-acquisition (R77): the counter and position known are set, and the requested motion proceeds by the
locate motion that a moving tape takes first (R78, R79). With a stop demanded the motion is not begun: the stop comes at the next
boundary, and a request that waits begins at rest (R79, R80). DESIGN CHOICE (log 86): one taken in the rewind before waits on for the rest
of the motion that follows. -/
def State.reacquired (s : State) (req : MotionReq) (seg : Nat) : State :=
  let s1 := { s with transport := { s.transport with
    pos := { wrap := s.transport.pos.wrap, seg := seg, tach := 0 }, known := true, missing := 0, markSeen := true } }
  match s1.transport.stop with
  | .demanded _ => { s1 with transport := { s1.transport with motion := .travel req } }
  | _ =>
    let t := if s1.wants req then
        match req with
        | .reelRewind => s1.startRewind req
        | r => s1.startTravel r
      else s1.immediateStop
    { t with transport := { t.transport with deferred := s1.transport.deferred } }

end Sys2Proof.Machine
end

