-- ==== Sys2Proof/Machine/Requests.lean ====
section
/-! DEFINITION. The immediate requests (R192), one meaning per row: each is taken only when the response queue has room (R190),
and its response is placed at once. -/

namespace Sys2Proof.Machine

/-- A request at the rise of LNK_SEL: taken when the queue has room for its answer, else refused, which the next link byte
shows (R190). -/
def State.take (s : State) (f : State → State) : State :=
  if s.hasRoom then f s else { s with link := { s.link with refused := true } }

/-! ### The snapshots -/

/-- The snapshot of R73. -/
def Transport.report (t : Transport) : TransportReport :=
  { state := t.state, pos := t.pos, known := t.known, slips := t.slips, missing := t.missing, step := t.step,
    pendingStep := t.pendingStep, synth := t.synth, lockedStep := t.lockedStep, active := t.active, standby := t.standby,
    dutyS := t.dutyS, dutyT := t.dutyT }

/-- The counts and the oldest unconfirmed stripe of R103. -/
def queueReport (slots : List Slot) : QueueReport :=
  { free := slotCountOf slots .free, filling := slotCountOf slots .filling, ready := slotCountOf slots .ready,
    inFlight := slotCountOf slots .inFlight, loading := slotCountOf slots .loading, decoded := slotCountOf slots .decoded,
    draining := slotCountOf slots .draining, intake := slotCountOf slots .intake, build := slotCountOf slots .build,
    outflow := slotCountOf slots .outflow, image := slotCountOf slots .image,
    oldest := (lowestStripe slots fun t => t.isReady || t.isInFlight).map fun p =>
      (p.2, (slotAt slots p.1).copies, (slotAt slots p.1).failedTracks) }

/-- The open extent of the session (R118, R22): its record on the wrap of the last planned copy 0, growing in the table once a stripe
of it has joined, till then reserved. -/
def State.openExtent (s : State) : Option OpenExtent :=
  match s.writer.session, s.writer.openWrap with
  | some n, some w =>
    match (sessionExtent s.catalog.extents n w).bind fun i => s.catalog.extents[i]? with
    | some e => some (.growing e)
    | none => (s.catalog.reservations.find? fun r => r.wrap == w).map OpenExtent.reserved
  | _, _ => none

/-- The Write Session record, the remaining distance and the Deferred Error record (R118, R132, R136). -/
def State.writeReport (s : State) : WriteReport :=
  let w := s.writer
  { state := w.state, session := w.session, openExtent := s.openExtent, firstStripe := w.firstStripe,
    highestStripe := w.highestStripe, lastCopy := w.lastCopy, requested := w.requested, accepted := w.accepted,
    firstUnconfirmed := w.session.map fun _ => s.catalog.blockCount, fault := w.fault,
    remaining := remainingDistance s.catalog.append, deferred := w.deferred }

/-- The Read Session record (R139). -/
def Reader.report (r : Reader) : ReadReport :=
  { state := r.state, request := r.request, delivered := r.delivered, sent := r.sent, corrected := r.corrected,
    nextDrain := r.nextDrain, extent := r.extent, nextPlan := r.nextPlan, highestMet := r.highestMet,
    searches := r.searches, halted := r.halted }

/-- The governor report of R168. -/
def State.governorReport (s : State) : GovernorReport :=
  { step := s.gov.step, down := s.gov.down, quick := s.gov.quick, minStep := s.settings.minStep,
    maxStep := s.settings.maxStep, restartThreshold := s.settings.restartThreshold, last := s.gov.last,
    meter := s.engine.report }

/-- The snapshot of STATUS (R195). -/
def State.statusReport (s : State) : StatusReport :=
  { operation := s.link.outstanding.map fun o => (o.op, o.tag), waiting := s.link.queue.length,
    pendingKinds := s.att.pending, seenKinds := s.att.seen, mask := s.settings.mask,
    attention := attentionLine s.att s.settings.mask, medium := s.medium.state, identity := s.medium.identity,
    transport := s.transport.report,
    catalog := if s.medium.state = .mounted then some s.catalog.report else none,
    queue := queueReport s.queue.slots, write := s.writeReport, read := s.reader.report, governor := s.governorReport,
    head := { dead := deadCount s.head.table, worn := s.head.worn, level := s.head.level, ci := s.head.ci,
              postClean := s.head.postClean } }

/-- The snapshot of READ CONDITION (R188). -/
def HeadMonitor.condition (h : HeadMonitor) : ConditionReport :=
  { ci := h.ci, pc := h.pc, spread := h.spread, decayRun := h.decayRun, meter := h.meter, level := h.level, last := h.last,
    postClean := h.postClean, worn := h.worn, mountSeq := h.mountSeq, mount := h.mount, rate := failureRate h.mount }

/-- The scanner state READ HEAD TABLE shows (R177). -/
def HeadMonitor.scanner (h : HeadMonitor) : ScannerReport :=
  match h.scan with
  | some c => if c.ending = none then .scanning c.element c.pass else .idle
  | none => .idle

/-! ### STATUS, ACK ATTENTION, CONFIGURE -/

/-- STATUS (R195): the snapshot, and the seen mark of every pending kind. -/
def execStatus (tag : Byte) (s : State) : Host.Outcome State Fault Refusal :=
  .next (s.take fun t => { t with att := t.att.see }.respond tag .ok (.status t.statusReport))

/-- ACK ATTENTION (R196). -/
def execAckAttention (tag kinds : Byte) (s : State) : Host.Outcome State Fault Refusal :=
  .next (s.take fun t =>
    let after := t.att.acknowledge kinds
    { t with att := after }.respond tag .ok (.acknowledged (t.att.clearable kinds) after.pending))

/-- The pending step handed on, and taken at once into an empty standby slot (R75, R162); a read stream answers it later (R164, log 71). -/
def State.handStep (s : State) : State := s.syncPending.takePending

/-- A range that leaves the current step outside moves it to the nearest end, the down-count 0 (R161). -/
def State.moveIntoRange (s : State) : State :=
  let k := clamp s.settings.minStep s.settings.maxStep s.gov.step
  if k = s.gov.step then s else { s with gov := { s.gov with step := k, down := 0 } }.handStep

/-- The values taken together and what follows at once (R198): the head statuses (R171), the step range (R161), the Cleaning
Call level (R185), the relax timer stopped by a CONFIGURE that sets 0 (R84): `timeout` when it carries the relax timeout. -/
def State.applySettings (s : State) (v : Settings) (timeout : Bool) : State :=
  let s1 := { s with settings := v, transport := { s.transport with
      relaxTimer := s.transport.relaxTimer && !(timeout && (v.relaxTimeout == 0)) } }
  ((s1.setTable (s1.head.table.map (Element.evaluate v))).moveIntoRange).evaluateLevel

/-- The pairs of a CONFIGURE carry the relax timeout (section 11.9). -/
def carriesRelaxTimeout (pairs : List (Byte × Word32)) : Bool := pairs.any fun p => p.1 == 0x06

/-- CONFIGURE (R198). -/
def execConfigure (tag : Byte) (pairs : List (Byte × Word32)) (s : State) : Host.Outcome State Fault Refusal :=
  .next (s.take fun t =>
    match t.settings.configured pairs with
    | none => t.respond tag .badRequest .none
    | some v => (t.applySettings v (carriesRelaxTimeout pairs)).respond tag .ok (.settings v))

/-- READ CONFIGURATION (R198). -/
def execReadConfiguration (tag : Byte) (s : State) : Host.Outcome State Fault Refusal :=
  .next (s.take fun t => t.respond tag .ok (.settings t.settings))

/-! ### Catalog requests -/

/-- The answer of QUERY CATALOG when nothing is found: END_OF_DATA with the last extent (R33). -/
def State.queryEnd (s : State) : Code × Payload :=
  let c := s.catalog
  (.endOfData, .catalog c.report (c.extents.getLast?.map fun e => (c.extents.length - 1, e)))

/-- The answer of QUERY CATALOG by block or by index, in MOUNTED (R33). -/
def State.query (s : State) (byIndex : Bool) (v : Nat) : Code × Payload :=
  let c := s.catalog
  if byIndex then
    match c.extents[v]? with
    | some e => (.ok, .catalog c.report (some (v, e)))
    | none => s.queryEnd
  else if c.blockCount ≤ v then s.queryEnd
  else match extentOf c.extents v with
    | some p => (.ok, .catalog c.report (some p))
    | none => s.queryEnd

/-- QUERY CATALOG (R33): a selector outside 0x01 and 0x02 is BAD_REQUEST (R191). -/
def execQueryCatalog (tag selector : Byte) (value : Word32) (s : State) : Host.Outcome State Fault Refusal :=
  .next (s.take fun t =>
    if selector ≠ 1 ∧ selector ≠ 2 then t.respond tag .badRequest .none
    else if t.medium.state = .mounted then
      let a := t.query (selector == 2) value.toNat
      t.respond tag a.1 a.2
    else t.respond tag .notReady .none)

/-- A cartridge memory write is in progress or waits (R52). -/
def State.cmBusy (s : State) : Bool := s.medium.write.isSome || !s.medium.waiting.isEmpty || !s.medium.heldZones.isEmpty

/-- The answer a Medium State gives SET ZONE (R32); none in MOUNTED. -/
def zoneStateAnswer : MediumState → Option Code
  | .mounted => none
  | .empty => some .notReady | .seated => some .notReady | .ejected => some .notReady | .stuck => some .notReady
  | .cleaning => some .notReady
  | .threading => some .busy | .mounting => some .busy | .rebuilding => some .busy | .unmounting => some .busy
  | .unthreading => some .busy

/-- The identity copy's tab is PROTECTED. -/
def State.isProtected (s : State) : Bool := (s.medium.identity.map Identity.tab).getD false

/-- SET ZONE past the frame's own checks (R32, R52). -/
def State.setZone (s : State) (tag : Byte) (i : Nat) (z : Zone) : State :=
  match zoneStateAnswer s.medium.state with
  | some code => s.respond tag code .none
  | none =>
    if s.isProtected then s.respond tag .writeProtected .none
    else if s.zoneProtected i then s.respond tag .zoneProtected .none
    else if s.cmBusy then
      { s with medium := { s.medium with heldZones := s.medium.heldZones ++ [{ tag := tag, index := i, zone := z }] } }
    else s.zoneOrWrite tag i z

/-- SET ZONE (R32): a zone number above 7, or an enabled, access or compression value outside its set, is BAD_REQUEST. -/
def execSetZone (tag zone enabled : Byte) (base : Word32) (k access compression : Byte) (s : State) :
    Host.Outcome State Fault Refusal :=
  .next (s.take fun t =>
    match parseSwitch enabled.toNat, Access.parse access.toNat, parseCompression compression.toNat with
    | some en, some acc, some comp =>
      if 7 < zone.toNat then t.respond tag .badRequest .none
      else t.setZone tag zone.toNat (Zone.made en base.toNat k.toNat acc comp)
    | _, _, _ => t.respond tag .badRequest .none)

/-- READ ZONES (R33). -/
def execReadZones (tag : Byte) (s : State) : Host.Outcome State Fault Refusal :=
  .next (s.take fun t => t.respond tag .ok (.zones t.catalog.zones))

/-! ### Head Monitor requests -/

/-- READ HEAD TABLE (R170). -/
def execReadHeadTable (tag : Byte) (s : State) : Host.Outcome State Fault Refusal :=
  .next (s.take fun t =>
    t.respond tag .ok (.headTable t.head.table (deadCount t.head.table) t.head.worn t.head.scanner))

/-- READ CONDITION (R188). -/
def execReadCondition (tag : Byte) (s : State) : Host.Outcome State Fault Refusal :=
  .next (s.take fun t => t.respond tag .ok (.condition t.head.condition))

/-- The Medium States in which no cartridge is threaded or moved: EMPTY, SEATED, EJECTED (R187, R188). -/
def MediumState.unthreadedState : MediumState → Bool
  | .empty => true | .seated => true | .ejected => true | _ => false

/-- LOAD CONDITION (R188). -/
def execLoadCondition (tag : Byte) (ci meter : Word32) (attribution : Byte) (s : State) :
    Host.Outcome State Fault Refusal :=
  .next (s.take fun t =>
    match Attribution.parse attribution.toNat with
    | none => t.respond tag .badRequest .none
    | some a =>
      if t.medium.state.unthreadedState then
        let c := clamp 0 1000 ci.toNat
        let m := clamp 0 65535 meter.toNat
        let t1 := { t with head := { t.head with ci := c, meter := m, last := a } }.evaluateLevel
        t1.respond tag .ok (.conditionTaken c m a t1.head.level)
      else t.respond tag .busy .none)

/-- READ MEDIUM RECORDS (R187). -/
def execReadMediumRecords (tag : Byte) (s : State) : Host.Outcome State Fault Refusal :=
  .next (s.take fun t => t.respond tag .ok (.mediumRecords t.head.records))

/-- A record taken: last failure rate and suspect count clamped (R187). -/
def recordOf (w : WireRecord) (a : Attribution) : MediumRecord :=
  { serial := w.serial, mounts := w.mounts.toNat, lastSeq := w.lastMountSeq.toNat, lastRate := min 1000 w.lastFailureRate.toNat,
    charge := w.charge.toNat, suspect := min 15 w.suspectCount.toNat, attribution := a }

/-- The records of a load in the order carried, or nothing when an attribution is outside its set (R187). -/
def parseRecords : List WireRecord → Option (List MediumRecord)
  | [] => some []
  | w :: ws => match Attribution.parse w.lastAttribution.toNat, parseRecords ws with
    | some a, some rs => some (recordOf w a :: rs)
    | _, _ => none

/-- The first of duplicates is kept (R187). -/
def takeRecords (rs : List MediumRecord) : List MediumRecord :=
  rs.foldl (fun taken r => if taken.any fun x => x.serial == r.serial then taken else taken ++ [r]) []

/-- LOAD MEDIUM RECORDS (R187). -/
def execLoadMediumRecords (tag : Byte) (records : List WireRecord) (s : State) : Host.Outcome State Fault Refusal :=
  .next (s.take fun t =>
    match parseRecords records with
    | none => t.respond tag .badRequest .none
    | some rs =>
      if !t.medium.state.unthreadedState then t.respond tag .busy .none
      else if 32 < rs.length then t.respond tag .badRequest .none
      else
        let taken := takeRecords rs
        let t1 := { t with head := { t.head with
          records := taken, mountSeq := (taken.map MediumRecord.lastSeq).foldl max t.head.mountSeq } }
        t1.respond tag .ok (.recordsTaken taken.length (rs.length - taken.length)))

/-! ### ABORT -/

/-- The payload of an operation that an ABORT or RESET DRIVE ends before any work of it counts. -/
def State.endedPayload (s : State) (o : Op) : Payload :=
  match o with
  | .readBlocks _ =>
    .read s.reader.delivered s.reader.sent s.catalog.current s.catalog.blockCount s.reader.corrected none none
  | .spaceBlocks _ _ => .spaced 0
  | .spaceMarkers _ _ => .spaced 0
  | .scanHead => .scanned ((s.head.scan.map Scan.done).getD 0) (deadCount s.head.table) s.head.table
  | .writeBlocks _ => .written s.writer.accepted s.catalog.current s.catalog.blockCount none
  | .writeMarkers _ => .written s.writer.accepted s.catalog.current s.catalog.blockCount none
  | _ => .none

/-- From FLUSHING the session returns to BEHIND (R133, R134). -/
def State.unflush (s : State) : State :=
  { s with writer := { s.writer with state := match s.writer.state with | .flushing => .behind | w => w } }

/-- An ABORT in the flush phase (R134), or of an operation held (R48): a LOCATE clears position-valid. -/
def State.abortFlushing (s : State) (o : Op) : State :=
  let s1 := match o with | .locate _ => s.losePosition | _ => s
  (s1.endOp .aborted (s.endedPayload o)).unflush

/-- An ABORT of a write request (R112, R123): the port is IDLE and takes no word more; a block in PLACING is placed to its end and
accepted first, the stages being emptied then; an opening write is let end (R121), its block discarded. -/
def State.abortWrite (s : State) : State :=
  let placing : Bool := match s.engine.block with | some b => b.phase == BlockPhase.placing | none => false
  if s.writer.opening then s.emptyStages.setPhase .aborting
  else if placing = true then
    { s.setPhase .aborting with port := { Port.idle with wordOut := s.port.wordOut } }
  else s.emptyStages.endWrite .aborted none

/-- A taken ABORT's effect on the outstanding operation (R193). -/
def State.abortOp (s : State) (o : Outstanding) : State :=
  match o.phase with
  | .aborting => s
  | .held => s.abortFlushing o.op
  | .flushing => if o.op = .flush then (s.endOp .aborted .none).unflush else s.abortFlushing o.op
  | .flushed => s.abortFlushing o.op
  | .working =>
    match o.op with
    | .locate _ => ((s.losePosition.endOp .aborted .none).immediateStop).endWork
    | .writeBlocks _ => s.abortWrite
    | .writeMarkers _ => s.abortWrite
    | .readBlocks _ => s.abortRead
    | .spaceBlocks _ _ => s.endSpace .aborted 0
    | .spaceMarkers _ _ => s.endSpace .aborted 0
    | .scanHead => s.endScanLate .aborted
    | .flush => (s.endOp .aborted .none).unflush
    | _ => s

/-- ABORT (R193): answered at once, before the aborted operation's own response. -/
def execAbort (tag : Byte) (s : State) : Host.Outcome State Fault Refusal :=
  .next (s.take fun t =>
    match t.link.outstanding with
    | none => t.respond tag .nothingToAbort .none
    | some o =>
      match o.op with
      | .load => t.respond tag .abortRefused .none
      | .unload => t.respond tag .abortRefused .none
      | .retireFrom _ => t.respond tag .abortRefused .none
      | _ => ((t.respond tag .ok .none).abortOp o).settle)

/-! ### RESET DRIVE -/

/-- Motion at RESET DRIVE (R83, R84, R87, R74, R75): an immediate stop of a moving tape, both plans emptied, the pending step
cleared, a re-tension given up with the tension back at hold level, whether or not a request still waits for it. -/
def State.resetMotion (s : State) : State :=
  let s1 := s.closeGate.emptyPlans
  let s2 := s1.immediateStop
  let s3 := { s2 with
    transport := { s2.transport with pendingStep := none, deferred := none }
    tape := { s2.tape with flights := [] }
    gov := { s2.gov with down := 0, quick := false, governed := false } }
  if s3.transport.state = .relaxed ∧ s3.transport.tension = .working then
    { s3.setTension .hold with transport := { (s3.setTension .hold).transport with motion := .idle } }
  else s3

/-- A write that RESET DRIVE finds under way is carried to its end (R28, R65, R121); one that only waited has not begun and is not
made (R28, R64, R65), and a flush failure kept for an UNLOAD goes with it. DESIGN CHOICE (log 77): so too a SET ZONE's write (R52), which stores its zone
and is answered when it ends, the SET ZONEs held behind it going on then. -/
def State.resetCm (s : State) : State :=
  { s with medium := { s.medium with write := s.medium.write.map CmWrite.late, waiting := [], flushFault := none } }

/-- The queue, the engine, the port and the read-ahead at RESET DRIVE (R103, R117, R138, R155, R169); the burst under way has ended
before the reset takes effect (R102). -/
def State.resetQueue (s : State) : State :=
  let s1 := s.dropSession
  { s1 with
    queue := { slots := List.replicate Config.slotCount Slot.empty, fillTimer := false, burst := none, waiting := [] }
    engine := { s1.engine with block := none, ring := [], outflow := [], walk := none, meter := Meter.zero }
    port := { Port.idle with wordOut := s1.port.wordOut }
    reader := Reader.idle
    writer := { Writer.idle with state := .idle }
    catalog := { s1.catalog with work := .idle, rebuilt := none } }

/-- The Medium State at RESET DRIVE (R65, R189, R45). DESIGN CHOICE (log 69): the response of an UNLOAD that ends so carries no payload. -/
def State.resetMedium (s : State) : State :=
  let back : AfterUnthread := { eject := false, code := some .aborted, retry := false }
  match s.medium.state with
  | .empty => s
  | .ejected => s
  | .seated =>
    { s.setMediumPhase .idle with medium := { (s.setMediumPhase .idle).medium with after := none, unmount := none } }
  | .threading => s.beginUnthread back
  | .mounting => s.unmountCatalog.discardPc.beginUnthread back
  | .rebuilding => s.unmountCatalog.discardPc.beginUnthread back
  | .mounted => s.commitPc
  | .unmounting =>
    let s1 := s.commitMount
    { s1 with medium := { s1.medium with unmount := none } }.beginUnthread back
  | .unthreading =>
    { s with medium := { s.medium with
      unmount := none
      after := s.medium.after.map fun (a : AfterUnthread) =>
        { a with eject := false, code := a.code.map fun _ => Code.aborted } } }
  | .cleaning =>
    if s.medium.write.map CmWrite.purpose = some .cleaningEnd then { s with medium := { s.medium with resetInWrite := true } }
    else s.beginUnthread back
  | .stuck => s.beginUnthread { eject := false, code := none, retry := true }

/-- Whether RESET DRIVE ends the outstanding operation at once (R194): not a LOAD or an UNLOAD on its way through an unthread (R65) or a
cleaning run's write (R64), nor a retirement whose write is under way (R28). -/
def State.resetEnds (s : State) (o : Op) : Bool :=
  match o with
  | .retireFrom _ => (match s.medium.write.map CmWrite.purpose with | some (.retire _ _) => false | _ => true)
  | .load => s.medium.state.unthreadedState
  | .unload => (s.medium.state != .unmounting) && (s.medium.state != .unthreading)
  | _ => true

/-- The outstanding operation at RESET DRIVE, `s` being the machine as the reset found it and `t` as its effects left it (R194): it ends with
ABORTED at once, or goes on to the end that R65, R64 or R28 gives it. The payload shows Current Block and block count as the reset has left
them (R103, R135); DESIGN CHOICE (log 44): the counts of the request itself are those it had reached. -/
def State.resetOp (t s : State) (o : Op) : State :=
  if s.resetEnds o then t.endOp .aborted (({ s with catalog := t.catalog } : State).endedPayload o)
  else match o with
    | .retireFrom _ => t.setPhase .aborting
    | _ => t

/-- The effects that RESET DRIVE makes at once (R194). DESIGN CHOICE (log 73): the attention marks are cleared before the commit of PC that the
reset makes in MOUNTED, so what that commit raises stays pending. -/
def State.resetBlocks (s : State) : State :=
  ((({ s with att := { pending := 0, seen := 0 } }.setScan none).resetMotion).resetQueue).resetCm.resetMedium

/-- RESET DRIVE (R194): answered OK when the effects have been made, ahead of the aborted operation's response. -/
def execResetDrive (tag : Byte) (s : State) : Host.Outcome State Fault Refusal :=
  .next (s.take fun t =>
    let u := t.resetBlocks.respond tag .ok .none
    (match t.op with
      | some o => u.resetOp t o
      | none => u).settle)

end Sys2Proof.Machine
end

