-- ==== Sys2Proof/Machine/Operations.lean ====
section
/-! DEFINITION. The operations (R192): the checks of each in the order its rule gives them, its taking as the outstanding
operation, and the flush phase before its own work (R134). An operation that arrives while a seated cartridge's record is
being read is held until the reading has ended (R48). -/

namespace Sys2Proof.Machine

/-! ### Checks in common -/

/-- Row 1 of the check tables of R27, R34, R120, R141 and R175: the answer of a Medium State other than MOUNTED. -/
def MediumState.refusal : MediumState → Option Code
  | .mounted => none
  | .empty => some .notReady | .seated => some .notReady | .ejected => some .notReady
  | .stuck => some .mediumFault
  | .threading => some .busy | .mounting => some .busy | .rebuilding => some .busy | .unmounting => some .busy
  | .unthreading => some .busy | .cleaning => some .busy

/-- An operation that passes its checks becomes the outstanding one (R192). -/
def State.accept (s : State) (tag : Byte) (o : Op) (p : OpPhase) : State :=
  { s with link := { s.link with outstanding := some { op := o, tag := tag, phase := p } } }

/-- The flush phase of an operation taken (R134): a session in BEHIND becomes FLUSHING and its FILLING slot closes; a FAILED one
is awaited; with no session the own work begins at once. -/
def State.flushPhase (s : State) : State :=
  match s.writer.state with
  | .behind =>
    let s1 := (s.setPhase .flushing).closeFilling
    { s1 with writer := { s1.writer with state := .flushing } }.trySessionEnd
  | .flushing => s.setPhase .flushing
  | .failed => s.setPhase .flushing
  | _ => s

/-- An operation checked in MOUNTED is taken: the read-ahead discarded where its rule says so (R100), then the flush phase. -/
def State.takeOperation (s : State) (tag : Byte) (o : Op) (discards : Bool) : State :=
  let s1 := if discards then s.dropReadAhead else s
  (s1.accept tag o .flushed).flushPhase

/-- Checks in the order of a table: the first that fails answers the operation without effect (R192); `checks` are the answers
of the failing ones. -/
def State.checked (s : State) (tag : Byte) (checks : List (Bool × Code)) (own : State → State) : State :=
  match checks.find? Prod.fst with
  | some c => s.respond tag c.2 .none
  | none => own s

/-- Row 1, and then the checks of the operation's own. DESIGN CHOICE (log 45): a write request, a READ BLOCKS or a SPACE answered here
carries no payload, the refusal being without effect (R120, R122, R141, R149, R152). -/
def State.inMounted (s : State) (tag : Byte) (checks : List (Bool × Code)) (own : State → State) : State :=
  match s.medium.state.refusal with
  | some code => s.respond tag code .none
  | none => s.checked tag checks own

/-! ### The own checks and the taking of each operation -/

/-- The seated cartridge is threaded (R53, R54): THREADING, the slip count cleared (R71), the first capture attempt. -/
def State.beginThreading (s : State) : State :=
  let s1 := ((s.enterMedium .threading).setMediumPhase (.capturing 1)).threadMotion
  { s1 with transport := { s1.transport with slips := 0 } }

/-- LOAD (R53). -/
def State.takeLoad (tag : Byte) (s : State) : State :=
  match s.medium.state with
  | .empty => s.respond tag .notReady .none
  | .ejected => s.respond tag .notReady .none
  | .stuck => s.respond tag .mediumFault .none
  | .seated =>
    match s.medium.identity.bind Identity.record with
    | none => s.respond tag .mediumUnreadable .none
    | some r =>
      let s1 := s.accept tag .load .working
      if r.kind = .cleaning ∧ r.passes = 0 then s1.beginEject (some .cleanerExpired) else s1.beginThreading
  | _ => s.respond tag .busy .none

/-- UNLOAD (R58, R59). -/
def State.takeUnload (tag : Byte) (s : State) : State :=
  match s.medium.state with
  | .empty => s.respond tag .notReady .none
  | .ejected => s.respond tag .notReady .none
  | .stuck => s.respond tag .mediumFault .none
  | .seated => (s.accept tag .unload .working).beginEject (some .ok)
  | .mounted => { s with medium := { s.medium with unloadFault := false } }.takeOperation tag .unload true
  | _ => s.respond tag .busy .none

/-- LOCATE (R34). -/
def State.takeLocate (t : LocateTarget) (tag : Byte) (s : State) : State :=
  s.inMounted tag [] fun x => x.takeOperation tag (.locate t) true

/-- The request fields of a write request taken (R120, R104), with the location that a session it opens is cut by (R26): in FAILED it
takes no blocks and the port stays IDLE. -/
def State.startWrite (s : State) (tag : Byte) (o : Op) (n : Nat) : State :=
  let s1 := s.dropReadAhead.accept tag o .working
  let s2 := { s1 with
    writer := { s1.writer with start := s1.catalog.location, requested := n, accepted := 0, refusal := none }
    reader := { s1.reader with overlapRaised := false } }
  if s2.writer.state = .failed then s2
  else { s2 with
    writer := { s2.writer with state := .accepting }
    port := { s2.port with phase := .length, lengthWord := none, remaining := 0, bytesLeft := 0, taken := 0 } }

/-- Rows 3 to 6 of R120. -/
def State.writeChecks (s : State) (n : Nat) : List (Bool × Code) :=
  [(n == 0, .badRequest), (!s.catalog.positionValid, .notReady), (s.isProtected, .writeProtected),
   (decide (2 ≤ deadCount s.head.table), .headFault)]

/-- WRITE BLOCKS (R120). -/
def State.takeWriteBlocks (n : Nat) (tag : Byte) (s : State) : State :=
  s.inMounted tag (s.writeChecks n) fun x => x.startWrite tag (.writeBlocks n) n

/-- WRITE MARKERS (R120). -/
def State.takeWriteMarkers (n : Nat) (tag : Byte) (s : State) : State :=
  s.inMounted tag (s.writeChecks n) fun x => x.startWrite tag (.writeMarkers n) n

/-- Rows 3 and 4 of R141, which R152 shares. -/
def State.readChecks (s : State) (n : Nat) : List (Bool × Code) :=
  [(n == 0, .badRequest), (!s.catalog.positionValid, .notReady)]

/-- READ BLOCKS (R141): a read-ahead found is kept. -/
def State.takeReadBlocks (n : Nat) (tag : Byte) (s : State) : State :=
  s.inMounted tag (s.readChecks n) fun x => x.takeOperation tag (.readBlocks n) false

/-- SPACE BLOCKS (R152). -/
def State.takeSpaceBlocks (forward : Bool) (n : Nat) (tag : Byte) (s : State) : State :=
  s.inMounted tag (s.readChecks n) fun x => x.takeOperation tag (.spaceBlocks forward n) false

/-- SPACE MARKERS (R152, R153). -/
def State.takeSpaceMarkers (forward : Bool) (n : Nat) (tag : Byte) (s : State) : State :=
  s.inMounted tag (s.readChecks n) fun x => x.takeOperation tag (.spaceMarkers forward n) false

/-- FLUSH (R133): OK at once in IDLE. -/
def State.takeFlush (tag : Byte) (s : State) : State :=
  s.inMounted tag [] fun x =>
    match x.writer.state with
    | .idle => x.respond tag .ok .none
    | _ => (x.accept tag .flush .flushing).flushPhase

/-- RETIRE FROM (R27). -/
def State.takeRetireFrom (b : Nat) (tag : Byte) (s : State) : State :=
  s.inMounted tag [(s.isProtected, .writeProtected)] fun x =>
    let y := x.takeOperation tag (.retireFrom b) true
    { y with reader := { y.reader with overlapRaised := false } }

/-- SCAN HEAD (R175). -/
def State.takeScanHead (tag : Byte) (s : State) : State :=
  s.inMounted tag [] fun x => x.takeOperation tag .scanHead true

/-! ### The dispatch of R192 -/

/-- Steps 1 and 2 of R192, the holding of R48, and then the operation's own checks. DESIGN CHOICE (log 68): a held operation is the
outstanding one, so that a further one is BUSY. -/
def State.gate (s : State) (tag : Byte) (o : Op) (own : State → State) : State :=
  if s.link.outstanding.isSome then s.respond tag .busy .none
  else match s.medium.state, s.writer.deferred with
    | .mounted, some r =>
      { s with writer := { s.writer with deferred := none } }.respond tag .deferredError (.deferred r)
    | .empty, _ => if s.medium.reading then s.accept tag o .held else own s
    | .seated, _ => if s.medium.reading then s.accept tag o .held else own s
    | _, _ => own s

/-- The own checks of an operation, by its kind. -/
def State.takeOp (o : Op) (tag : Byte) (s : State) : State :=
  match o with
  | .load => s.takeLoad tag
  | .unload => s.takeUnload tag
  | .locate t => s.takeLocate t tag
  | .writeBlocks n => s.takeWriteBlocks n tag
  | .writeMarkers n => s.takeWriteMarkers n tag
  | .readBlocks n => s.takeReadBlocks n tag
  | .spaceBlocks f n => s.takeSpaceBlocks f n tag
  | .spaceMarkers f n => s.takeSpaceMarkers f n tag
  | .flush => s.takeFlush tag
  | .retireFrom b => s.takeRetireFrom b tag
  | .scanHead => s.takeScanHead tag

/-- A held operation finds the Medium State that the seating, or its end, has left (R48). -/
def State.releaseHeld (s : State) : State :=
  match s.link.outstanding with
  | some o =>
    if o.phase = .held then
      ({ s with link := { s.link with outstanding := none } }).takeOp o.op o.tag
    else s
  | none => s

/-! ### The meanings -/

/-- LOAD (R53). -/
def execLoad (tag : Byte) (s : State) : Host.Outcome State Fault Refusal :=
  .next (s.take fun t => (t.gate tag .load (State.takeLoad tag)).settle)

/-- UNLOAD (R58). -/
def execUnload (tag : Byte) (s : State) : Host.Outcome State Fault Refusal :=
  .next (s.take fun t => (t.gate tag .unload (State.takeUnload tag)).settle)

/-- LOCATE (R34): a target outside its set is BAD_REQUEST (R191). -/
def execLocate (tag target : Byte) (block : Word32) (s : State) : Host.Outcome State Fault Refusal :=
  .next (s.take fun t =>
    match LocateTarget.parse target.toNat block.toNat with
    | none => t.respond tag .badRequest .none
    | some x => (t.gate tag (.locate x) (State.takeLocate x tag)).settle)

/-- WRITE BLOCKS (R120). -/
def execWriteBlocks (tag : Byte) (n : Word16) (s : State) : Host.Outcome State Fault Refusal :=
  .next (s.take fun t => (t.gate tag (.writeBlocks n.toNat) (State.takeWriteBlocks n.toNat tag)).settle)

/-- WRITE MARKERS (R120). -/
def execWriteMarkers (tag : Byte) (n : Word16) (s : State) : Host.Outcome State Fault Refusal :=
  .next (s.take fun t => (t.gate tag (.writeMarkers n.toNat) (State.takeWriteMarkers n.toNat tag)).settle)

/-- READ BLOCKS (R141). -/
def execReadBlocks (tag : Byte) (n : Word16) (s : State) : Host.Outcome State Fault Refusal :=
  .next (s.take fun t => (t.gate tag (.readBlocks n.toNat) (State.takeReadBlocks n.toNat tag)).settle)

/-- SPACE BLOCKS (R152): a direction outside its set is BAD_REQUEST. -/
def execSpaceBlocks (tag direction : Byte) (n : Word32) (s : State) : Host.Outcome State Fault Refusal :=
  .next (s.take fun t =>
    match parseDirection direction.toNat with
    | none => t.respond tag .badRequest .none
    | some f => (t.gate tag (.spaceBlocks f n.toNat) (State.takeSpaceBlocks f n.toNat tag)).settle)

/-- SPACE MARKERS (R152, R153): a direction outside its set is BAD_REQUEST. -/
def execSpaceMarkers (tag direction : Byte) (n : Word32) (s : State) : Host.Outcome State Fault Refusal :=
  .next (s.take fun t =>
    match parseDirection direction.toNat with
    | none => t.respond tag .badRequest .none
    | some f => (t.gate tag (.spaceMarkers f n.toNat) (State.takeSpaceMarkers f n.toNat tag)).settle)

/-- FLUSH (R133). -/
def execFlush (tag : Byte) (s : State) : Host.Outcome State Fault Refusal :=
  .next (s.take fun t => (t.gate tag .flush (State.takeFlush tag)).settle)

/-- RETIRE FROM (R27). -/
def execRetireFrom (tag : Byte) (b : Word32) (s : State) : Host.Outcome State Fault Refusal :=
  .next (s.take fun t => (t.gate tag (.retireFrom b.toNat) (State.takeRetireFrom b.toNat tag)).settle)

/-- SCAN HEAD (R175). -/
def execScanHead (tag : Byte) (s : State) : Host.Outcome State Fault Refusal :=
  .next (s.take fun t => (t.gate tag .scanHead (State.takeScanHead tag)).settle)

end Sys2Proof.Machine
end

