-- ==== Sys2Proof/Machine/MediumEvents.lean ====
section
/-! DEFINITION. The events of the cartridge, the threader and the cartridge memory (chapter 3), one meaning per row. An event
that the Medium State does not admit leaves the part as it was (assumption 1). -/

namespace Sys2Proof.Machine

/-- INSERTION, the rise of CART_PRESENT in EMPTY (R48): the tab is sampled and the reading of the record begins. -/
def execInsertion (wpTab : Bool) (s : State) : Host.Outcome State Fault Refusal :=
  .next (if s.medium.state = .empty ∧ s.medium.present = false then
      { s with medium := { s.medium with present := true, sampledTab := wpTab, reading := true, phase := .readingRecord } }
    else s)

/-- CARTRIDGE_MEMORY_READ_DONE (R48, R66): the identity copy is filled, and a seating enters SEATED, where a held operation is
taken up. -/
def execCartridgeMemoryReadDone (record : Option (List Byte)) (s : State) : Host.Outcome State Fault Refusal :=
  .next (if s.medium.reading then
      let copy : Identity := { record := CmRecord.parse record, tab := s.medium.sampledTab, memoryFault := false }
      let s1 : State := { s with medium := { s.medium with reading := false, identity := some copy } }
      let s2 := if s1.medium.state = .empty then (s1.enterMedium .seated).setMediumPhase .idle else s1
      s2.releaseHeld.settle
    else s)

/-- The slot is empty (R46, R47, R49): a seating, or an eject that an operation waits for, ends; no eject is left to make. DESIGN CHOICE
(log 48): a cartridge memory write that a RESET DRIVE has left under way is lost with the cartridge. DESIGN CHOICE (log 76): a cartridge gone
while its record is still being read in EMPTY cancels the seating, with no change of the Medium State to tell (R48). -/
def State.emptySlot (s : State) : State :=
  let waiting := s.medium.phase == .ejecting
  let entered := (if s.medium.state = .empty then s else s.enterMedium .empty).dropCm
  let s1 : State := { entered with medium := { entered.medium with
    phase := .idle, identity := none, reading := false, after := none } }
  let s2 := if waiting then s1.endMedium .mediumFault else s1
  ({ s2 with medium := { s2.medium with unmount := none } }).releaseHeld

/-- Every block's work on a lost tape is over (R49, R95, R135): session, read-ahead, scan, catalog work, cartridge memory writes; no slot
and no check of a copy is held for it. -/
def State.dropWork (s : State) : State :=
  let s1 := ((s.dropSession.emptyStages.stopWalk).setScan none).freeSlotsWhere fun _ => true
  let s2 := s1.dropCm
  { s2 with
    tape := { s2.tape with flights := [] }
    queue := { s2.queue with fillTimer := false }
    writer := { Writer.idle with deferred := s2.writer.deferred }
    reader := Reader.idle
    gov := { s2.gov with governed := false }
    transport := { s2.transport with pendingStep := none }
    catalog := { s2.catalog with work := .idle, rebuilt := none } }

/-- The outstanding operation ends with MEDIUM_FAULT (R49). -/
def State.endLost (s : State) : State :=
  match s.op with
  | none => s
  | some .load => s.endMedium .mediumFault
  | some .unload => s.endMedium .mediumFault
  | some o => s.endOp .mediumFault (s.endedPayload o)

/-- The mount and catalog of a tape lost in this Medium State (R49, R45, R179, R182). -/
def State.endMount (s : State) : State :=
  match s.medium.state with
  | .mounted => s.commitMount.unmountCatalog
  | .unmounting => s.commitMount.unmountCatalog
  | .mounting => s.unmountCatalog.discardPc
  | .rebuilding => s.unmountCatalog.discardPc
  | _ => s

/-- The loader has lost a cartridge whose tape the transport holds (R49): motion stops, the operation ends with MEDIUM_FAULT,
STUCK. -/
def State.loseCartridge (s : State) : State :=
  let s1 := (s.park).endLost.dropWork.endMount
  let s2 := (s1.enterMedium .stuck).setMediumPhase .idle
  { s2 with medium := { s2.medium with
    reading := false, after := none, unmount := none, flushFault := none, resetInWrite := false } }

/-- REMOVAL, the fall of CART_PRESENT (R49). In STUCK too a write left under way is lost (DESIGN CHOICE, log 48). -/
def execRemoval (s : State) : Host.Outcome State Fault Refusal :=
  .next (if s.medium.present then
      let s1 : State := { s with medium := { s.medium with present := false } }
      match s1.medium.state with
      | .empty => s1.emptySlot.settle
      | .seated => s1.emptySlot.settle
      | .ejected => s1.emptySlot.settle
      | .stuck => s1.dropCm
      | _ => s1.loseCartridge
    else s)

/-- EJECT_DONE (R49): EJECTED; an operation that waits for it ends (R53, R58, R61, R63). -/
def execEjectDone (s : State) : Host.Outcome State Fault Refusal :=
  .next (if s.medium.phase = .ejecting then
      let s1 := (s.enterMedium .ejected).setMediumPhase .idle
      let s2 := match s.medium.after.bind AfterUnthread.code with
        | some code => s1.endMedium code
        | none => s1
      { s2 with medium := { s2.medium with after := none, unmount := none } }
    else s)

/-- LEADER_CAPTURE (R54): winding to tension begins. -/
def execLeaderCapture (s : State) : Host.Outcome State Fault Refusal :=
  .next (match s.medium.phase with
    | .capturing _ => { s with medium := { s.medium with leader := true, phase := .winding } }
    | _ => s)

/-- CAPTURE_TIMEOUT (R54): the next attempt, or after the third the unthread with THREAD_FAULT. -/
def execCaptureTimeout (s : State) : Host.Outcome State Fault Refusal :=
  .next (match s.medium.phase with
    | .capturing k =>
      if k < 3 then s.setMediumPhase (.capturing (k + 1))
      else s.beginUnthread { eject := false, code := some .threadFault, retry := false }
    | _ => s)

/-- TENSION_REACHED (R54): STOPPED with the head stepped to wrap 0 (R70); a data cartridge enters MOUNTING (R55), a cleaning cartridge
CLEANING (R63). -/
def execTensionReached (s : State) : Host.Outcome State Fault Refusal :=
  .next (if s.medium.phase = .winding then
      let s1 := s.enterTransport .stopped
      let s2 := { s1 with transport := { s1.transport with pos := s1.transport.pos.headTo 0 } }
      match s2.medium.identity.bind Identity.record with
      | none => s2
      | some r => if r.kind = .cleaning then s2.beginCleaning else (s2.beginMounting r).settle
    else s)

/-- WIND_BACK_DONE (R62): THREAD_DRV returns the leader block. -/
def execWindBackDone (s : State) : Host.Outcome State Fault Refusal :=
  .next (if s.medium.phase = .windingBack then s.setMediumPhase .returning else s)

/-- UNTHREAD_DONE (R62). -/
def execUnthreadDone (s : State) : Host.Outcome State Fault Refusal :=
  .next (if s.medium.phase = .returning then s.unthreaded.settle else s)

/-- UNTHREAD_TIMEOUT (R62). -/
def execUnthreadTimeout (s : State) : Host.Outcome State Fault Refusal :=
  .next (if s.medium.phase = .returning then s.stuck.settle else s)

/-- CARTRIDGE_MEMORY_WRITE_DONE (R50). -/
def execCartridgeMemoryWriteDone (readBack : Option (List Byte)) (s : State) : Host.Outcome State Fault Refusal :=
  .next (s.cmReadBack readBack).settle

/-- CLEANING_PASS_END (R63): with the pass's tach counts made, the run reverses and counts anew, or makes the cleaning write. DESIGN CHOICE
(log 91): when the return pass ends the tape enters STOPPED at once, and stays so through the cleaning write. -/
def execCleaningPassEnd (s : State) : Host.Outcome State Fault Refusal :=
  .next (if s.medium.passCounts = cleaningPass then
      match s.medium.phase with
      | .cleanForward => { s with
          medium := { s.medium with phase := .cleanBack, passCounts := 0 }
          transport := { s.transport with against := true } }
      | .cleanBack => ((s.comeToRest.setMediumPhase .cleanWrite).requestCm .cleaningEnd).settle
      | _ => s
    else s)

end Sys2Proof.Machine
end

