-- ==== Sys2Proof/Machine/TransportEvents.lean ====
section
/-! DEFINITION. The events of the transport (chapter 4), one meaning per row. An event that the Transport State does not admit
leaves the part as it was (assumption 1). -/

namespace Sys2Proof.Machine

/-- Tach counts left to the boundary in the direction given (R70). -/
def Pos.toBoundary (p : Pos) (upstream : Bool) : Nat := if upstream then p.tach + 1 else 64 - p.tach

/-- Tach counts from the counter's point in a turnaround to the boundary that begins the new wrap's first segment `a`: the head may
stand on the old wrap yet, past its end (R70, R81). -/
def Pos.toWrapStart (p : Pos) (a : SegAddr) : Nat := if p.wrap = a.wrap then p.along.natAbs else (p.along - 4096000).natAbs

/-- SEGMENT_BOUNDARY (R70, R74, R86): the counter moves one step wherever the tape moves, in THREAD_MOTION too (R62) and at rest (R69).
Downstream in TURNAROUND it is the boundary that begins the next wrap's first segment (R81), but for a tape that a stop is bringing to rest,
which passes the counter's own next boundary (DESIGN CHOICE, log 19). -/
def execSegmentBoundary (upstream : Bool) (reads : BoundaryReads) (s : State) : Host.Outcome State Fault Refusal :=
  let passed := s.passTach (s.transport.pos.toBoundary upstream)
  .next (match s.transport.state with
    | .turnaround =>
      if upstream || s.transport.stop.rests then (passed.moveUncounted upstream).settle
      else ((s.passTach (s.transport.pos.toWrapStart s.nextSegment)).turnaroundBoundary reads).settle
    | _ => (passed.boundary upstream reads).settle)

/-- Beyond the end of its wrap in recording order (R70, R81). -/
def Pos.pastWrap (p : Pos) : Bool := (evenWrap p.wrap && decide (63999 < p.seg)) || (!evenWrap p.wrap && decide (p.seg < 0))

/-- One count in the recording direction, or against it (R70): 64 and below 0 are boundaries. -/
def State.countTach (s : State) (down : Bool) (reads : BoundaryReads) : State :=
  let p := s.transport.pos
  let set (n : Nat) : State := { s with transport := { s.transport with pos := { p with tach := n }, against := !down } }
  if down then (if p.tach < 63 then set (p.tach + 1) else s.boundary false reads)
  else if 0 < p.tach then set (p.tach - 1)
  else s.boundary true reads

/-- TACH_COUNT (R70, R86). In TURNAROUND the head has stepped to the next wrap before the first count the other way (R81). -/
def execTachCount (direction : ReelDirection) (reads : BoundaryReads) (s : State) : Host.Outcome State Fault Refusal :=
  let p := s.transport.pos
  let forward := direction == .forward
  let turned := (s.transport.state == .turnaround) && p.pastWrap && (forward != evenWrap p.wrap)
  let s1 := if turned then { s with transport := { s.transport with pos := p.stepWrap } } else s
  .next ((s1.passTach 1).countTach (forward == evenWrap s1.transport.pos.wrap) reads).settle

/-- SERVO_MARK_CAPTURE (R71, R77): the first mark of a re-acquisition, or a mark captured in LOCATING, STREAMING or BACKHITCH, as in the
immediate stop of a re-acquisition. DESIGN CHOICE (log 57): a mark that passes in a rewind by reel count, which is measured by tach counts
alone (R77), is disregarded whole. -/
def execServoMarkCapture (segment : Nat) (reads : List BoundaryReads) (s : State) : Host.Outcome State Fault Refusal :=
  if 64000 ≤ segment then .fault .noSuchSegment
  else .next (match s.transport.state, s.transport.motion with
    | .streaming, .reacquire req => if s.transport.stop = .immediate then (s.captureMark segment reads).settle
      else (s.reacquired req segment).settle
    | .streaming, .stream .cleaning => s
    | .streaming, _ => (s.captureMark segment reads).settle
    | .locating, .rewind _ => s
    | .locating, _ => (s.captureMark segment reads).settle
    | .backhitch, _ => (s.captureMark segment reads).settle
    | _, _ => s)

/-- POSITION_LOST (R72). -/
def execPositionLost (s : State) : Host.Outcome State Fault Refusal :=
  .next (if s.marksExpected then s.positionLost.settle else s)

/-- MOTOR_STALL (R69): in THREAD_MOTION the threading or the unthread has failed (R54, R62). -/
def execMotorStall (s : State) : Host.Outcome State Fault Refusal :=
  .next (match s.transport.state with
    | .parked => s
    | .threadMotion =>
      (match s.medium.phase with
        | .capturing _ => s.beginUnthread { eject := false, code := some .threadFault, retry := false }
        | .winding => s.beginUnthread { eject := false, code := some .threadFault, retry := false }
        | .windingBack => s.stuck.settle
        | .returning => s.stuck.settle
        | _ => s)
    | _ => s.motorStalled.settle)

/-- RETENSION_COMPLETE (R68, R84): STOPPED, and the waiting request proceeds. -/
def execRetensionComplete (s : State) : Host.Outcome State Fault Refusal :=
  .next (if s.transport.state = .relaxed ∧ s.transport.tension = .working then
      let motion := s.transport.motion
      let s1 := s.enterTransport .stopped
      let s2 := { s1 with transport := { s1.transport with motion := .idle } }
      match motion with
      | .retension req => (s2.beginMotion req).settle
      | _ => s2.settle
    else s)

/-- RELAX_TIMEOUT (R84). -/
def execRelaxTimeout (s : State) : Host.Outcome State Fault Refusal :=
  .next (if s.transport.state = .stopped ∧ s.transport.relaxTimer = true ∧ s.settings.relaxTimeout ≠ 0 then
      s.enterTransport .relaxed
    else s)

/-- The unmount's rewind is over: the unthread and the eject follow (R61). -/
def State.rewound (s : State) : State :=
  s.comeToRest.beginUnthread
    { eject := true, code := some ((s.medium.unmount.map Unmount.status).getD .mediumFault), retry := false }

/-- REEL_COUNT_REWIND_DONE (R77): the counter is set; the re-acquisition streams forward at step 0, to which a governed
stream's pending step is set again (R162), or the unmount goes on. DESIGN CHOICE (log 56): the synthesizer stays as it was. With a stop
demanded the tape stays at rest, and a request that waits begins (log 63). -/
def execReelCountRewindDone (s : State) : Host.Outcome State Fault Refusal :=
  .next (match s.transport.motion, s.transport.stop with
    | .rewind _, .immediate => s
    | .rewind _, .controlled _ => s
    | .rewind req, stop =>
      let s1 := { s with transport := { s.transport with pos := { wrap := 0, seg := -32, tach := 0 } } }
      match req, stop with
      | .reelRewind, _ => s1.rewound.settle
      | _, .demanded _ => s1.comeToRest.settle
      | r, _ =>
        let s2 := s1.enterTransport .streaming
        { s2 with transport := { s2.transport with
            motion := .reacquire r, stop := .none, against := false, active := some .pass, step := 0, runUp := 0, startAt := none,
            unhanded := 0 } }.syncPending
    | _, _ => s)

/-- REACQUISITION_FAILED (R77): the tape is brought to rest, and the request ends with POSITION_LOST. -/
def execReacquisitionFailed (s : State) : Host.Outcome State Fault Refusal :=
  .next (match s.transport.motion, s.transport.stop with
    | .reacquire _, .immediate => s
    | .reacquire _, _ => if s.transport.state = .streaming then s.positionLost.settle else s
    | _, _ => s)

/-- A LOCATE without a fine search has reached its rest point (R18, R37). -/
def State.locateDone (s : State) : State :=
  match s.op with
  | some (.locate t) =>
    if t = .endOfData then ({ s with catalog := s.catalog.toEnd }).endOp .ok .none
    else
      match t with
      | .block b =>
        if s.catalog.blockCount ≤ b then ({ s with catalog := s.catalog.toEnd }).endOp .endOfData .none
        else ({ s with catalog := s.catalog.toBeginning }).endOp .ok .none
      | _ => ({ s with catalog := s.catalog.toBeginning }).endOp .ok .none
  | _ => s

/-- LOCATE_MOTION_DONE (R79): STOPPED with the counter at the rest point; a request that waited for rest begins, else what asked
for the motion goes on. DESIGN CHOICE (log 86): a request taken in LOCATING waits for this rest, and the stream that the motion was to
make is not begun. -/
def execLocateMotionDone (s : State) : Host.Outcome State Fault Refusal :=
  .next (match s.transport.state, s.transport.motion, s.transport.stop with
    | .locating, .travel _, .immediate => s
    | .locating, .travel req, _ =>
      let s1 := { s with transport := { s.transport with pos := req.restPoint } }
      match s.transport.deferred with
      | some _ => s1.comeToRest.settle
      | none =>
        match req with
        | .stream o t => (s1.comeToRest.beginMotion (.stream o t)).settle
        | .locateEnd _ => s1.comeToRest.locateDone.settle
        | .unmountRewind => s1.rewound.settle
        | .reelRewind => s1.comeToRest.settle
    | _, _, _ => s)

/-- The rest of a controlled stop: a check that no boundary took is not handed (R125), and a save is over (R39, R60). -/
def State.stopRest (s : State) : State := ({ s with tape := { s.tape with flights := [] } }).saveStopped.comeToRest

/-- CONTROLLED_STOP_REST (R80, R81): at the ready point of the resume segment, or where the deceleration ends; within a
turnaround at the ready point of the new wrap's first segment, from where another resume segment is reached. -/
def execControlledStopRest (s : State) : Host.Outcome State Fault Refusal :=
  .next (match s.transport.state, s.transport.stop with
    | .backhitch, .controlled (some a) =>
      ({ s with transport := { s.transport with pos := readyPoint a } }.stopRest).settle
    | .backhitch, .controlled none => s.stopRest.settle
    | .turnaround, .controlled r =>
      let first := s.nextSegment
      let s1 := { s with transport := { s.transport with pos := readyPoint first } }
      if r = none ∨ r = some first then s1.comeToRest.settle else s1.enterTransport .backhitch
    | _, _ => s)

/-- The checks handed at the end of the data area, oldest segment first (R125, R126, R128, R137): a copy 3 that fails is a
session fault. -/
def State.finalChecks : List Flight → List (List TrackRead) → State → State
  | [], _, s => s
  | f :: fs, reads, s =>
    let tracks := reads.headD []
    let fails := failMarks tracks f.underrun
    let c := s.takeCheck f fails
    let s1 := match c.failed with
      | some n => (c.state.sessionFault .writeFailed n false).lowerPoint
      | none => c.state.lowerPoint
    State.finalChecks fs (reads.drop 1) (s1.headResults fails ((eighteen tracks).map trackLevel))

/-- END_OF_DATA_AREA_REST (R82): the checks, then what the end means to the owner (R43, R137), and rest. DESIGN CHOICE (log 87): an owner
other than the Write Controller does not act on the report while another motion request waits; that request begins at rest. -/
def execEndOfDataAreaRest (checks : List (List TrackRead)) (s : State) : Host.Outcome State Fault Refusal :=
  .next (if s.transport.stop = .endOfArea then
      let s1 := State.finalChecks s.tape.flights checks s
      let s2 := match s1.owner, s1.catalog.work with
        | some .write, _ => s1.endOfMediumTest.lowerPoint.trySessionEnd
        | some o, w =>
          if s1.transport.deferred.isSome then s1
          else match o, w with
            | .read, _ => s1.readAtEnd
            | .rebuild, .rebuild r => s1.rebuildAtEnd r
            | .fineSearch, .fine f => s1.fineAtEnd f
            | .markerScan, .markers m => s1.markersAtEnd m
            | _, _ => s1
        | none, _ => s1
      s2.comeToRest.settle
    else s)

/-- IMMEDIATE_STOP_REST (R83, R72). -/
def execImmediateStopRest (s : State) : Host.Outcome State Fault Refusal :=
  .next (if s.transport.stop = .immediate ∧ s.transport.state.moving = true then s.comeToRest.settle else s)

end Sys2Proof.Machine
end

