-- ==== Sys2Proof/Machine/HeadEvents.lean ====
section
/-! DEFINITION. The events of the Head Monitor (chapter 10) and of the Speed Governor's window (chapter 9), one meaning per
row. -/

namespace Sys2Proof.Machine

/-! ### The Head Monitor -/

/-- KILOSEGMENT_EVENT (R86, R184): an event that the tape passed has brought reaches the Head Monitor. -/
def execKilosegmentEvent (s : State) : Host.Outcome State Fault Refusal :=
  .next (if 0 < s.transport.kilosegments then
      { s with transport := { s.transport with kilosegments := s.transport.kilosegments - 1 } }.kilosegment
    else s)

/-- DECAY_RUN_EXPIRY (R180): the 512th result set in a row with f = 0, the run holding the 511 before it. -/
def execDecayRunExpiry (s : State) : Host.Outcome State Fault Refusal :=
  .next (if 511 ≤ s.head.decayRun then s.decay else s)

/-- PC_COMMIT (R181): PC is 400 or more in an open mount. -/
def execPcCommit (s : State) : Host.Outcome State Fault Refusal :=
  .next (if s.head.mount.isOpen = true ∧ 400 ≤ s.head.pc then s.commitPc else s)

/-- A post-clean scan or a SCAN HEAD has measured all 18 elements (R176 to R178). -/
def State.scanDone (s : State) (c : Scan) : State :=
  let s1 := (s.setScan (some { c with measuring := false, signal := none })).scanMarks c
  if c.postClean then
    (((s1.setScan none).haltMotion).setMediumPhase .mountWrite).requestCm .mountCompletion
  else s1.endScanLate .ok

/-- The noise window of an element ends (R176): its measurement is stored, and the element is done. -/
def State.noiseEnd (s : State) (c : Scan) (amplitude noise : Nat) : State :=
  let s1 := s.storeElement c.element amplitude noise
  let c1 := { c with
    done := c.done + 1, element := (c.element + 1) % 18, elapsed := c.elapsed + c.pairTime,
    raised := c.raised || newlyDead s.head.table s1.head.table }.nextPair
  if c1.done = 18 then s1.scanDone c1 else s1.setScan (some c1)

/-- SCAN_WINDOW_END (R176): the signal window's end begins the noise window. -/
def execScanWindowEnd (level : Byte) (s : State) : Host.Outcome State Fault Refusal :=
  .next (match s.head.scan with
    | none => s
    | some c =>
      if c.measuring = true ∧ c.ending = none then
        match c.signal with
        | none => s.setScan (some { c with signal := some level.toNat })
        | some amplitude => (s.noiseEnd c amplitude level.toNat).settle
      else s)

/-! ### The Speed Governor -/

/-- The rates of the speed steps in segments per second (R156). -/
def stepRates : List Nat := [120, 168, 216, 264, 312, 360]

/-- The lowest step whose rate is at least the demand, and step 5 beyond them all (R157). -/
def rawTarget (demand : Nat) : Nat :=
  match stepRates.findIdx? fun r => decide (demand ≤ r) with
  | some k => k
  | none => 5

/-- The window of S stored bytes under a step range (R157, R158). -/
def Window.made (lo hi stored : Nat) : Window :=
  let p := ceilDiv stored 65536
  let d := p + ceilDiv p 8
  { s := stored, p := p, d := d, target := clamp lo hi (rawTarget d) }

/-- The current step after a window's target (R159), or with the quick-fall mark set (R160). -/
def Governor.applyTarget (g : Governor) (target : Nat) : Governor :=
  if g.step < target then { g with step := target, down := 0, quick := false }
  else if g.step = target then { g with down := 0, quick := false }
  else if g.quick then { g with step := g.step - 1, down := 0 }
  else if 2 ≤ g.down then { g with step := g.step - 1, down := 0 }
  else { g with down := g.down + 1 }

/-- GOVERNOR_WINDOW_END (R116, R157): the rate meter's counts become its report and start again from 0. -/
def execGovernorWindowEnd (s : State) : Host.Outcome State Fault Refusal :=
  let m := s.engine.meter
  let w := Window.made s.settings.minStep s.settings.maxStep (satAdd max32 m.placed m.taken)
  let s1 := { s with
    engine := { s.engine with meter := Meter.zero, report := m }
    gov := { s.gov with last := w }.applyTarget w.target }
  .next s1.handStep

end Sys2Proof.Machine
end

