-- ==== Sys2Proof/Machine/WriteEvents.lean ====
section
/-! DEFINITION. The events of the write path: plans offered (R74), the fill timer (R92), the Data Port inward (R104, R105), the
admission and placement of blocks (R105, R110), the buffer arbiter (R102), the restart of a write stream (R166). -/

namespace Sys2Proof.Machine

/-- PLAN_OFFER (R74): the owner fills the standby slot when it is empty; the Read Controller, which finds an ACQUIRING plan in it, demands
its stop (R164). -/
def execPlanOffer (s : State) : Host.Outcome State Fault Refusal :=
  .next (match s.transport.state with
    | .streaming => s.refill.trySessionEnd.settle
    | .turnaround => s.refill.trySessionEnd.settle
    | _ => s)

/-- FILL_TIMEOUT (R92): no placement is under way in the FILLING slot between two commands, so the slot closes at once. -/
def execFillTimeout (s : State) : Host.Outcome State Fault Refusal :=
  .next (if s.queue.fillTimer then s.closeFilling else s)

/-! ### The Data Port inward -/

/-- The length a write request takes (R105). -/
def validLength (o : Option Op) (l : Nat) : Bool :=
  match o with
  | some (.writeBlocks _) => decide (1 ≤ l) && decide (l ≤ Config.payloadSize)
  | some (.writeMarkers _) => l == 0
  | _ => false

/-- A length word outside its range (R105, R122): the port takes no further word, and the request ends once every block admitted
before is accepted. -/
def State.badLength (s : State) : State :=
  match s.engine.block with
  | none => s.emptyStages.endWrite .badBlockLength none
  | some _ => { s with
      writer := { s.writer with refusal := some .badBlockLength }
      port := { s.port with phase := .idle, remaining := 0, bytesLeft := 0 } }

/-- A length word taken (R104, R105). -/
def State.takeLength (s : State) (l : Nat) : State :=
  { s with port := { s.port with
      phase := if l = 0 then .length else .data, lengthWord := some l, remaining := ceilDiv l 4, bytesLeft := l,
      taken := s.port.taken + 1 } }

/-- LENGTH_WORD_IN (R105), DP_DIR showing the in direction: a word passes only when that is the direction of the request (R104), with
DP_READY asserted (R97). -/
def execLengthWordIn (word : Word32) (s : State) : Host.Outcome State Fault Refusal :=
  .next (if dirAgrees .inward s && readyForLength s then
      if validLength s.op word.toNat then s.takeLength word.toNat else s.badLength
    else s)

/-- The bytes of a data word, most significant first, `left` bytes of the block being still to come (R104). -/
def dataBytes (word : Word32) (left : Nat) : List Byte := (beBytes 4 word.toNat).take (wordBytes left)

/-- DATA_WORD_IN (R104, R96, R106), DP_DIR showing the in direction: the word enters the INTAKE ring, and the engine reads on. -/
def execDataWordIn (word : Word32) (s : State) : Host.Outcome State Fault Refusal :=
  .next (if dirAgrees .inward s && readyForData s then
      let p := s.port
      { s with
        engine := { s.engine with ring := s.engine.ring ++ dataBytes word p.bytesLeft }
        port := { p with
          phase := if p.remaining ≤ 1 then .length else .data, remaining := p.remaining - 1,
          bytesLeft := p.bytesLeft - wordBytes p.bytesLeft } }.runEngine
    else s)

/-! ### Admission -/

/-- A block refused at its admission ends the request, the blocks before it being accepted (R105, R122). -/
def State.refuseBlock (s : State) (code : Code) : State := s.emptyStages.endWrite code none

/-- The zone tests of the block to be admitted (R30, R31): the refusal, if there is one. -/
def State.blockRefusal (s : State) (b : Nat) : Option Code :=
  if overlapped s.catalog.zones b && s.settings.zoneStrict then some .zoneConflict
  else if accessOf s.catalog.zones b = .readOnly then some .zoneProtected
  else none

/-- The tests of the blocks that a session beginning at `b` would cut (R26, R31). -/
def State.cutRefusal (s : State) (b : Nat) : Option Code :=
  let count := s.catalog.blockCount
  if rangeOverlapped s.catalog.zones b count && s.settings.zoneStrict then some .zoneConflict
  else if rangeProtected s.catalog.zones b count then some .zoneProtected
  else none

/-- The block admitted under an open session passes to the engine (R105, R106). -/
def State.admitBlock (s : State) (length : Nat) : State :=
  let b := s.catalog.current
  let block := BlockRecord.opened b length (length == 0) (compressionOf s.settings s.catalog.zones b)
  { s with
    engine := { s.engine with block := some block }
    port := { s.port with lengthWord := none } }.runEngine

/-- ZONE_OVERLAP raised for the blocks that an admission touches, as far as its tests go (R31). -/
def State.touch (s : State) (b : Nat) : State :=
  let count := s.catalog.blockCount
  let cutting := !s.sessionOpen && decide (b < count)
  if cutting && rangeOverlapped s.catalog.zones b count then s.raiseOverlap
  else if cutting && (s.cutRefusal b).isSome then s
  else if overlapped s.catalog.zones b then s.raiseOverlap
  else s

/-- Steps 1 to 3 of R121 for the first block of a session. -/
def State.beginOpening (s : State) (b : Nat) : State :=
  let cut := if b < s.catalog.blockCount then s.cutRefusal b else none
  match cut with
  | some code => s.refuseBlock code
  | none =>
    match s.blockRefusal b with
    | some code => s.refuseBlock code
    | none =>
      if b = s.catalog.blockCount ∧ atEndOfArea s.appendSegment = true then s.refuseBlock .endOfMedium
      else ({ s with writer := { s.writer with opening := true } }).requestCm .sessionOpening

/-- A length word waits that can be admitted: every earlier block of the request has been accepted (R105). -/
def State.admissible (s : State) : Option Nat :=
  if takingBlocks s && (s.engine.block == none) && !s.writer.opening && (s.opPhase == some .working) then s.port.lengthWord
  else none

/-- BLOCK_ADMISSION (R105, R121). -/
def execBlockAdmission (s : State) : Host.Outcome State Fault Refusal :=
  .next (match s.admissible with
    | none => s
    | some length =>
      let b := s.catalog.current
      if b = max32 then s.refuseBlock .endOfMedium
      else
        let s1 := s.touch b
        if s1.sessionOpen then
          match s1.blockRefusal b with
          | some code => s1.refuseBlock code
          | none => s1.admitBlock length
        else s1.beginOpening b)

/-! ### Placement -/

/-- A block waits in PLACING with bytes still to place. -/
def State.placing (s : State) : Bool :=
  match s.engine.block with
  | some b => (b.phase == .placing) && !b.rest.isEmpty
  | none => false

/-- BLOCK_PLACEMENT (R110): as far as FREE slots allow. -/
def execBlockPlacement (s : State) : Host.Outcome State Fault Refusal :=
  .next (if s.placing then ((s.placeRun 5).acceptPlaced.numbersSpentTest).settle else s)

/-- FILLING_SLOT_OPEN (R90): a waiting placement has its slot, and goes on in it. -/
def execFillingSlotOpen (s : State) : Host.Outcome State Fault Refusal :=
  .next (match s.engine.block, s.fillingSlot with
    | some b, none =>
      if s.placing then
        match s.openFilling b.number with
        | some s1 => ((s1.placeRun 5).acceptPlaced).settle
        | none => s.numbersSpentTest.settle
      else s
    | _, _ => s)

/-! ### The buffer arbiter -/

/-- The order of grants (R102). -/
def grantOrder : MediumState → List Requester
  | .mounting => [.tapeChannel, .catalogEngine, .compressionEngine, .dataPort]
  | .rebuilding => [.tapeChannel, .catalogEngine, .compressionEngine, .dataPort]
  | .unmounting => [.tapeChannel, .catalogEngine, .compressionEngine, .dataPort]
  | _ => [.tapeChannel, .compressionEngine, .dataPort, .catalogEngine]

/-- BUFFER_BURST_END (R102): the highest waiting requester is granted; while the Tape Channel writes or reads, its bursts are counted,
and one not served in time is lost by its number. DESIGN CHOICE (log 79): that number is the count of Tape Channel bursts ended since the
segment began. -/
def execBufferBurstEnd (arrivals : List Requester) (tapeLate : Bool) (s : State) : Host.Outcome State Fault Refusal :=
  let asking := (grantOrder s.medium.state).filter fun r => s.queue.waiting.contains r || arrivals.contains r
  let passing := s.tape.gate || s.readActive
  let late := tapeLate && passing
  let served := s.tape.served + (if passing && (s.queue.burst == some .tapeChannel) then 1 else 0)
  .next { s with
    queue := { s.queue with burst := asking.head?, waiting := asking.drop 1 }
    tape := { s.tape with
      underrun := s.tape.underrun || late
      served := served + (if late then 1 else 0)
      lost := if late then s.tape.lost ++ [served] else s.tape.lost } }

/-! ### Restart -/

/-- The tape is at rest with no motion asked for, or a manoeuvre brings it to rest, when a restart is held (R80, R166, R167). -/
def State.restartPossible (s : State) : Bool :=
  match s.transport.state, s.transport.stop with
  | .stopped, _ => true
  | .relaxed, _ => s.transport.motion == .idle
  | .backhitch, .controlled _ => true
  | .turnaround, .controlled _ => true
  | _, _ => false

/-- WRITE_RESTART (R166, R124): a stream from the resume segment; beyond the last data segment the request is refused (R82,
R137). -/
def execWriteRestart (s : State) : Host.Outcome State Fault Refusal :=
  .next (if s.writeRestartDue && s.restartPossible then
      if atEndOfArea s.resumeSegment then s.endOfMediumTest.trySessionEnd.settle
      else (({ s with gov := { s.gov with governed := true } }).requestMotion (.stream .write s.resumeSegment)).syncPending
    else s)

end Sys2Proof.Machine
end

