-- ==== Sys2Proof/Machine/ReadEvents.lean ====
section
/-! DEFINITION. The events of the read path: draining and expansion (R99, R113, R114), the Data Port outward (R115), the count
of blocks sent (R145), searches and restarts (R146, R147, R167). -/

namespace Sys2Proof.Machine

/-- The slot of the stripe named next to drain, when it is DECODED. -/
def State.namedDecoded (s : State) : Option Nat :=
  s.reader.nextDrain.bind fun n => s.findSlot fun t => (t.state == .decoded) && (t.stripe == some n)

/-- The walk holds a block for the port. -/
def State.walkHolds (s : State) : Bool :=
  match s.engine.walk with
  | some w => w.phase == .hold
  | none => false

/-- DRAINING_START (R99): while a complete block is held for the port, the drain of the stripe after it pauses (R97). -/
def execDrainingStart (s : State) : Host.Outcome State Fault Refusal :=
  .next (if s.reading && (s.reader.ending == none) && s.drainingSlot.isNone && !s.walkHolds then
      match s.namedDecoded with
      | some i =>
        let t := s.startDraining i
        if t.drainingSlot.isNone then t.readEndTest.settle else t
      | none => s
    else s)

/-- An OUTFLOW slot is held. -/
def State.outflowHeld (s : State) : Bool := (s.findSlot fun t => t.state == .outflow).isSome

/-- BLOCK_EXPANSION (R113, R114, R145): the walk goes on to the next wanted block. A stripe holds at most 16,384 headers
(R8), and the walk takes two turns for each block it skips. -/
def execBlockExpansion (s : State) : Host.Outcome State Fault Refusal :=
  .next (if s.wantsBlock && s.outflowHeld && (s.port.phase == .idle) then ((s.walkRun 32772).readEndTest).settle else s)

/-- What follows a block's last word (R115, R145, R149). -/
def State.afterBlock (s : State) : State := s.blockSent.advanceCurrent.readEndTest.settle

/-- LENGTH_WORD_OUT (R115), DP_DIR showing the out direction: a word passes only when that is the direction of the request (R104); a
marker is sent by its length word alone. -/
def execLengthWordOut (s : State) : Host.Outcome State Fault Refusal :=
  .next (if dirAgrees .outward s && dpValid .outward s && (s.port.phase == .sendLength) then
      let s1 := { s with port := { s.port with
        wordOut := BitVec.ofNat 32 (s.port.lengthWord.getD 0), phase := .sendData } }
      if s.port.remaining = 0 then s1.afterBlock else s1
    else s)

/-- The four bytes of the next data word of OUTFLOW, unused low-order bytes zero (R104). -/
def nextDataWord (out : List Byte) (left : Nat) : Word32 :=
  let bs := (out.drop (out.length - left)).take 4
  BitVec.ofNat 32 (beNat (bs ++ List.replicate (4 - bs.length) 0))

/-- DATA_WORD_OUT (R104, R115), DP_DIR showing the out direction. -/
def execDataWordOut (s : State) : Host.Outcome State Fault Refusal :=
  .next (if dirAgrees .outward s && dpValid .outward s && (s.port.phase == .sendData) then
      let p := s.port
      let s1 := { s with port := { p with
        wordOut := nextDataWord s.engine.outflow p.bytesLeft, remaining := p.remaining - 1,
        bytesLeft := p.bytesLeft - wordBytes p.bytesLeft } }
      if p.remaining ≤ 1 then s1.afterBlock else s1
    else s)

/-- SUCCESSOR_HEADER_LOCATED (R145). -/
def execSuccessorHeaderLocated (s : State) : Host.Outcome State Fault Refusal := .next s.advanceCurrent.settle

/-- An expired search with a READ BLOCKS outstanding (R147, R148): the read ends when its stripe has failed; else, once the restart of
an earlier retry has been read, the lowest expired search with a retry left is retried. -/
def State.answerExpired (s : State) : State :=
  let t := s.readEndTest
  if t.reading && t.reader.retrying.isNone then
    match t.reader.searches.find? fun e => e.expired && decide (e.retries < t.settings.retryLimit) with
    | some e => t.retry e
    | none => t
  else t.settle

/-- SEARCH_EXPIRED (R146 to R148): a retry or the end of the read while a READ BLOCKS is outstanding, else the read-ahead halts. -/
def execSearchExpired (s : State) : Host.Outcome State Fault Refusal :=
  .next (if s.reader.searches.any fun e => e.expired then
      if s.reading then s.answerExpired
      else if s.reader.state = .ahead ∧ s.reader.halted = false then s.haltReadAhead
      else s
    else s)

/-- The stream of a read-ahead that is not halted begins again (R142, R167): an extent that does not follow on is gone to once no
search of an earlier one is open; with no search open a reclaimed stripe is gone back for, and past the catalog's end the
read-ahead halts. -/
def State.restartRead (s : State) : State :=
  let t := if s.searching then s else s.goBack
  let u := if t.reader.jump then t.jumpExtent else t
  match u.reader.nextPlan with
  | some a =>
    if t.reader.jump && !u.reader.jump then u
    else if u.reader.atEnd && !u.searching then u.haltReadAhead
    else if atEndOfArea a then u.readAtEnd.settle
    else u.requestMotion (.stream .read a)
  | none => u

/-- READ_RESTART (R167): a stream from next to plan, of the Read Controller or of a rebuild; beyond the last data segment the request is
refused (R82). -/
def execReadRestart (s : State) : Host.Outcome State Fault Refusal :=
  .next (if s.restartPossible then
      if s.readRestartDue then s.restartRead
      else match s.rebuildRestart with
        | some a => s.requestMotion (.stream .rebuild a)
        | none => s
    else s)

end Sys2Proof.Machine
end

