-- ==== Sys2Proof/Machine/LinkEvents.lean ====
section
/-! DEFINITION. Power-on reset (R66) and the Command Link's transactions (R190, R191). -/

namespace Sys2Proof.Machine

/-! ### Power-on -/

/-- POWER_ON_RESET (R66): every block at its power-on values; a cartridge present is seated, its record being read, and a tape
left threaded is unthreaded. DESIGN CHOICE (log 92): the unthread begins at once, beside the record read. The model's own command queue is
kept. -/
def execPowerOnReset (cartPresent wpTab leaderSense : Bool) (s : State) : Host.Outcome State Fault Refusal :=
  let s0 := { State.reset with pending := s.pending }
  if cartPresent then
    let s1 := { s0 with medium := { s0.medium with
      present := true, sampledTab := wpTab, reading := true, phase := .readingRecord, leader := leaderSense } }
    if leaderSense then
      let s2 := { s1 with medium := { s1.medium with
        state := .unthreading, after := some { eject := false, code := none, retry := false } } }
      .next s2.driveUnthread
    else .next s1
  else .next s0

/-! ### Transactions -/

/-- One flag of the link byte. -/
def flagBit (b : Bool) (weight : Nat) : Nat := if b then weight else 0

/-- The link byte (section 11.9). -/
def State.linkByte (s : State) : Byte :=
  BitVec.ofNat 8 (s.link.queue.length % 32 + flagBit (attentionLine s.att s.settings.mask) 32
    + flagBit s.link.refused 64 + flagBit s.link.outstanding.isSome 128)

/-- What a transaction of n bytes shifts out on LNK_OUT (R190): the link byte, the oldest response, zeros; a response wholly
shifted leaves the queue, and a refusal shown is cleared. -/
def State.shiftOut (s : State) (n : Nat) : State :=
  let frame := match s.link.queue with
    | r :: _ => r.bytes
    | [] => []
  let out := (s.linkByte :: frame) ++ List.replicate n 0
  { s with link := { s.link with
      shiftedOut := out.take n
      queue := if frame.length + 1 ≤ n then s.link.queue.drop 1 else s.link.queue
      refused := s.link.refused && (n == 0) } }

/-- A request taken from a frame is the request's own row (R191, R192). -/
def execRequest (c : Instr) (s : State) : Host.Outcome State Fault Refusal :=
  match c with
  | .status tag => execStatus tag s
  | .ackAttention tag kinds => execAckAttention tag kinds s
  | .configure tag pairs => execConfigure tag pairs s
  | .readConfiguration tag => execReadConfiguration tag s
  | .queryCatalog tag selector value => execQueryCatalog tag selector value s
  | .setZone tag zone enabled base k access compression => execSetZone tag zone enabled base k access compression s
  | .readZones tag => execReadZones tag s
  | .readHeadTable tag => execReadHeadTable tag s
  | .readCondition tag => execReadCondition tag s
  | .loadCondition tag ci meter attribution => execLoadCondition tag ci meter attribution s
  | .readMediumRecords tag => execReadMediumRecords tag s
  | .loadMediumRecords tag records => execLoadMediumRecords tag records s
  | .abort tag => execAbort tag s
  | .resetDrive tag => execResetDrive tag s
  | .load tag => execLoad tag s
  | .unload tag => execUnload tag s
  | .locate tag target block => execLocate tag target block s
  | .writeBlocks tag n => execWriteBlocks tag n s
  | .writeMarkers tag n => execWriteMarkers tag n s
  | .readBlocks tag n => execReadBlocks tag n s
  | .spaceBlocks tag direction n => execSpaceBlocks tag direction n s
  | .spaceMarkers tag direction n => execSpaceMarkers tag direction n s
  | .flush tag => execFlush tag s
  | .retireFrom tag b => execRetireFrom tag b s
  | .scanHead tag => execScanHead tag s
  | _ => .next s

/-- LINK_TRANSACTION (R190, R191): what is shifted out, then the request frame at the rise of LNK_SEL. -/
def execLinkTransaction (bytes : List Byte) (s : State) : Host.Outcome State Fault Refusal :=
  let s1 := s.shiftOut bytes.length
  match parseFrame bytes with
  | .noRequest => .next s1
  | .bad tag => .next (s1.take fun t => t.respond tag .badRequest .none)
  | .request c => execRequest c s1

end Sys2Proof.Machine
end

