-- ==== Sys2Proof/Machine/Dispatch.lean ====
section
/-! DEFINITION. The dispatch: one arm per command, each a direct call of the command's own meaning. -/

namespace Sys2Proof.Machine

/-- The effect of a command on everything but the queue of commands. -/
def exec (i : Instr) (s : State) : Host.Outcome State Fault Refusal :=
  match i with
  | .powerOnReset cartPresent wpTab leaderSense => Sys2Proof.Machine.execPowerOnReset cartPresent wpTab leaderSense s
  | .linkTransaction bytes => Sys2Proof.Machine.execLinkTransaction bytes s
  | .status tag => Sys2Proof.Machine.execStatus tag s
  | .ackAttention tag kinds => Sys2Proof.Machine.execAckAttention tag kinds s
  | .configure tag pairs => Sys2Proof.Machine.execConfigure tag pairs s
  | .readConfiguration tag => Sys2Proof.Machine.execReadConfiguration tag s
  | .queryCatalog tag selector value => Sys2Proof.Machine.execQueryCatalog tag selector value s
  | .setZone tag zone enabled base k access compression => Sys2Proof.Machine.execSetZone tag zone enabled base k access compression s
  | .readZones tag => Sys2Proof.Machine.execReadZones tag s
  | .readHeadTable tag => Sys2Proof.Machine.execReadHeadTable tag s
  | .readCondition tag => Sys2Proof.Machine.execReadCondition tag s
  | .loadCondition tag ci meter attribution => Sys2Proof.Machine.execLoadCondition tag ci meter attribution s
  | .readMediumRecords tag => Sys2Proof.Machine.execReadMediumRecords tag s
  | .loadMediumRecords tag records => Sys2Proof.Machine.execLoadMediumRecords tag records s
  | .abort tag => Sys2Proof.Machine.execAbort tag s
  | .resetDrive tag => Sys2Proof.Machine.execResetDrive tag s
  | .load tag => Sys2Proof.Machine.execLoad tag s
  | .unload tag => Sys2Proof.Machine.execUnload tag s
  | .locate tag target block => Sys2Proof.Machine.execLocate tag target block s
  | .writeBlocks tag n => Sys2Proof.Machine.execWriteBlocks tag n s
  | .writeMarkers tag n => Sys2Proof.Machine.execWriteMarkers tag n s
  | .readBlocks tag n => Sys2Proof.Machine.execReadBlocks tag n s
  | .spaceBlocks tag direction n => Sys2Proof.Machine.execSpaceBlocks tag direction n s
  | .spaceMarkers tag direction n => Sys2Proof.Machine.execSpaceMarkers tag direction n s
  | .flush tag => Sys2Proof.Machine.execFlush tag s
  | .retireFrom tag b => Sys2Proof.Machine.execRetireFrom tag b s
  | .scanHead tag => Sys2Proof.Machine.execScanHead tag s
  | .insertion wpTab => Sys2Proof.Machine.execInsertion wpTab s
  | .cartridgeMemoryReadDone record => Sys2Proof.Machine.execCartridgeMemoryReadDone record s
  | .removal => Sys2Proof.Machine.execRemoval s
  | .ejectDone => Sys2Proof.Machine.execEjectDone s
  | .leaderCapture => Sys2Proof.Machine.execLeaderCapture s
  | .captureTimeout => Sys2Proof.Machine.execCaptureTimeout s
  | .tensionReached => Sys2Proof.Machine.execTensionReached s
  | .unthreadDone => Sys2Proof.Machine.execUnthreadDone s
  | .unthreadTimeout => Sys2Proof.Machine.execUnthreadTimeout s
  | .cartridgeMemoryWriteDone readBack => Sys2Proof.Machine.execCartridgeMemoryWriteDone readBack s
  | .cleaningPassEnd => Sys2Proof.Machine.execCleaningPassEnd s
  | .segmentBoundary upstream reads => Sys2Proof.Machine.execSegmentBoundary upstream reads s
  | .servoMarkCapture segment reads => Sys2Proof.Machine.execServoMarkCapture segment reads s
  | .positionLost => Sys2Proof.Machine.execPositionLost s
  | .motorStall => Sys2Proof.Machine.execMotorStall s
  | .retensionComplete => Sys2Proof.Machine.execRetensionComplete s
  | .relaxTimeout => Sys2Proof.Machine.execRelaxTimeout s
  | .reelCountRewindDone => Sys2Proof.Machine.execReelCountRewindDone s
  | .reacquisitionFailed => Sys2Proof.Machine.execReacquisitionFailed s
  | .locateMotionDone => Sys2Proof.Machine.execLocateMotionDone s
  | .controlledStopRest => Sys2Proof.Machine.execControlledStopRest s
  | .endOfDataAreaRest checks => Sys2Proof.Machine.execEndOfDataAreaRest checks s
  | .kilosegmentEvent => Sys2Proof.Machine.execKilosegmentEvent s
  | .decayRunExpiry => Sys2Proof.Machine.execDecayRunExpiry s
  | .pcCommit => Sys2Proof.Machine.execPcCommit s
  | .planOffer => Sys2Proof.Machine.execPlanOffer s
  | .fillTimeout => Sys2Proof.Machine.execFillTimeout s
  | .governorWindowEnd => Sys2Proof.Machine.execGovernorWindowEnd s
  | .lengthWordIn word => Sys2Proof.Machine.execLengthWordIn word s
  | .dataWordIn word => Sys2Proof.Machine.execDataWordIn word s
  | .blockAdmission => Sys2Proof.Machine.execBlockAdmission s
  | .blockPlacement => Sys2Proof.Machine.execBlockPlacement s
  | .fillingSlotOpen => Sys2Proof.Machine.execFillingSlotOpen s
  | .bufferBurstEnd arrivals tapeLate => Sys2Proof.Machine.execBufferBurstEnd arrivals tapeLate s
  | .drainingStart => Sys2Proof.Machine.execDrainingStart s
  | .blockExpansion => Sys2Proof.Machine.execBlockExpansion s
  | .lengthWordOut => Sys2Proof.Machine.execLengthWordOut s
  | .dataWordOut => Sys2Proof.Machine.execDataWordOut s
  | .successorHeaderLocated => Sys2Proof.Machine.execSuccessorHeaderLocated s
  | .searchExpired => Sys2Proof.Machine.execSearchExpired s
  | .writeRestart => Sys2Proof.Machine.execWriteRestart s
  | .readRestart => Sys2Proof.Machine.execReadRestart s
  | .scanWindowEnd level => Sys2Proof.Machine.execScanWindowEnd level s
  | .tachCount direction reads => Sys2Proof.Machine.execTachCount direction reads s
  | .immediateStopRest => Sys2Proof.Machine.execImmediateStopRest s
  | .windBackDone => Sys2Proof.Machine.execWindBackDone s

end Sys2Proof.Machine
end

