-- ==== Sys2Proof/WellFormed.lean ====
section
/-! DEFINITION. Which commands can reach the part at all: what the tape, the cartridge and a frame can carry. Each check names
the rule of the manual it follows; nothing here says what a command does. -/

namespace Sys2Proof

/-- A track yields at most 28 header bytes, 16,384 bytes and 4 CRC bytes (R6). -/
def TrackRead.wellFormed (t : TrackRead) : Bool := decide (t.bytes.length ≤ 16416)

/-- A reading of one segment has at most 18 tracks (R1, R6). -/
def readsWellFormed (reads : List TrackRead) : Bool := decide (reads.length ≤ 18) && reads.all TrackRead.wellFormed

def BoundaryReads.wellFormed (r : BoundaryReads) : Bool := readsWellFormed r.ended && readsWellFormed r.check

/-- No requester twice: each has at most one request waiting (R102). -/
def distinctRequesters : List Requester → Bool
  | [] => true
  | r :: rs => !rs.contains r && distinctRequesters rs

/-- A serial has 12 bytes (R16, section 11.9). -/
def WireRecord.wellFormed (r : WireRecord) : Bool := r.serial.length == 12

/-- A cartridge memory record has 37 bytes (R16). -/
def recordWellFormed (record : Option (List Byte)) : Bool :=
  match record with
  | some bs => bs.length == 37
  | none => true

/-- A command that the tape, the cartridge or a frame can bring. -/
def Instr.wellFormed (i : Instr) : Bool :=
  match i with
  | .configure _ pairs => decide (1 ≤ pairs.length) && decide (pairs.length ≤ 19)
  | .loadMediumRecords _ records => decide (records.length ≤ 42) && records.all WireRecord.wellFormed
  | .cartridgeMemoryReadDone record => recordWellFormed record
  | .cartridgeMemoryWriteDone readBack => recordWellFormed readBack
  | .segmentBoundary _ reads => reads.wellFormed
  | .tachCount _ reads => reads.wellFormed
  | .servoMarkCapture segment reads => decide (segment < 64000) && reads.all BoundaryReads.wellFormed
  | .endOfDataAreaRest checks => decide (checks.length ≤ 3) && checks.all readsWellFormed
  | .bufferBurstEnd arrivals _ => distinctRequesters arrivals
  | _ => true

end Sys2Proof
end

