-- ==== Sys2Proof/Safety.lean ====
section
/-! DEFINITION. The terms that statements about the part use: the legal configuration values, the invariant of every step,
a state with nothing left over from an earlier step, and the requests among the commands. -/

namespace Sys2Proof.Machine

/-- Every configuration value inside its range, and the two pairs in order (R198, R158, R171, section 11.8). -/
abbrev Settings.Legal (v : Settings) : Prop :=
  (8 ≤ v.restartThreshold ∧ v.restartThreshold ≤ 96) ∧ (1 ≤ v.rewriteThreshold ∧ v.rewriteThreshold ≤ 2) ∧
  v.retryLimit ≤ 7 ∧ v.minStep ≤ v.maxStep ∧ v.maxStep ≤ 5 ∧ v.relaxTimeout ≤ 255 ∧
  (1 ≤ v.fillTimeout ∧ v.fillTimeout ≤ 255) ∧ (100 ≤ v.earlyDistance ∧ v.earlyDistance ≤ 4000) ∧
  (200 ≤ v.cleanThreshold ∧ v.cleanThreshold ≤ 900) ∧ (1000 ≤ v.cleanInterval ∧ v.cleanInterval ≤ 60000) ∧
  v.deadThreshold ≤ v.weakThreshold ∧ v.weakThreshold ≤ 255 ∧ v.scanA ≤ 255 ∧ v.scanB ≤ 255 ∧ v.scanStart ≤ 17

/-- The invariant that every step keeps: legal configuration values (R198), the current step inside the configured range
(R158, R161), 128 stripe slots (R88), 18 entries in the Head Element Table (R170). -/
abbrev State.WellFormed (s : State) : Prop :=
  s.settings.Legal ∧ (s.settings.minStep ≤ s.gov.step ∧ s.gov.step ≤ s.settings.maxStep) ∧
  s.queue.slots.length = Config.slotCount ∧ s.head.table.length = 18

/-- A slot of this state is held, or none is FREE. -/
abbrev State.stageSettled (s : State) (st : SlotState) : Prop :=
  (s.findSlot fun t => t.state == st).isSome = true ∨ s.lowestFree = none

/-- Nothing that an earlier step left over waits to be done at the end of the next: no ended scan waits for rest, no unthread
for its start, no ended read-ahead for its stream's rest, no operation stands between its flush phase and its own work, and
the stage slots due are held. Every step leaves these done as far as its state allows (`State.settle`). -/
abbrev State.Settled (s : State) : Prop :=
  s.head.scan.bind Scan.ending = none ∧
  ¬(s.medium.state = .unthreading ∧ s.medium.phase = .idle) ∧
  ¬(s.reader.state = .ahead ∧ s.reader.nextDrain = none) ∧
  s.opPhase ≠ some .flushed ∧
  (s.sessionOpen = true → s.stageSettled .intake ∧ s.stageSettled .build) ∧
  (s.reading = true ∧ s.reader.ending = none → s.stageSettled .outflow)

/-- The tag of a request (R191); nothing for the commands that are no request. -/
def requestTag (c : Instr) : Option Byte :=
  match c with
  | .status tag => some tag
  | .ackAttention tag _ => some tag
  | .configure tag _ => some tag
  | .readConfiguration tag => some tag
  | .queryCatalog tag _ _ => some tag
  | .setZone tag _ _ _ _ _ _ => some tag
  | .readZones tag => some tag
  | .readHeadTable tag => some tag
  | .readCondition tag => some tag
  | .loadCondition tag _ _ _ => some tag
  | .readMediumRecords tag => some tag
  | .loadMediumRecords tag _ => some tag
  | .abort tag => some tag
  | .resetDrive tag => some tag
  | .load tag => some tag
  | .unload tag => some tag
  | .locate tag _ _ => some tag
  | .writeBlocks tag _ => some tag
  | .writeMarkers tag _ => some tag
  | .readBlocks tag _ => some tag
  | .spaceBlocks tag _ _ => some tag
  | .spaceMarkers tag _ _ => some tag
  | .flush tag => some tag
  | .retireFrom tag _ => some tag
  | .scanHead tag => some tag
  | _ => none

/-- The operation that a request asks for, when it is one and its enumerated parameters are inside their sets (R192). -/
def operationOf (c : Instr) : Option Op :=
  match c with
  | .load _ => some .load
  | .unload _ => some .unload
  | .locate _ target block => (LocateTarget.parse target.toNat block.toNat).map .locate
  | .writeBlocks _ n => some (.writeBlocks n.toNat)
  | .writeMarkers _ n => some (.writeMarkers n.toNat)
  | .readBlocks _ n => some (.readBlocks n.toNat)
  | .spaceBlocks _ direction n => (parseDirection direction.toNat).map fun f => .spaceBlocks f n.toNat
  | .spaceMarkers _ direction n => (parseDirection direction.toNat).map fun f => .spaceMarkers f n.toNat
  | .flush _ => some .flush
  | .retireFrom _ b => some (.retireFrom b.toNat)
  | .scanHead _ => some .scanHead
  | _ => none

end Sys2Proof.Machine
end

