-- ==== Sys2Proof/Certificates/Slice0/Obligations.lean ====
section
/-! DEFINITION. The statements about the part for the provers, one `def Obligations.<Name> : Prop` each, in the order of
OBLIGATIONS.json. Each docstring names the rules a statement rests on; a clause that is the model's own choice names its log
entry. -/

open Sys2Proof Sys2Proof.Machine

/-! ### The queue of commands and the whole machine -/

/-- One step runs the command at the front of the queue with the queue's rest; with no command waiting the part idles (the
model's own queue, assumption 2). -/
def Obligations.StepRunsTheFrontCommand : Prop :=
  (∀ (s : State) (c : Instr) (rest : List Instr), s.pending = c :: rest → step s = exec c { s with pending := rest }) ∧
  ∀ s : State, s.pending = [] → step s = .next s

/-- No command is refused, and each is answered with a next state, the queue of commands as it was (the model's own queue,
assumption 2), but a servo mark that names a segment the tape has not (R1; the fault is the model's, assumption 6). -/
def Obligations.EveryCommandCompletes : Prop :=
  ∀ (c : Instr) (s : State),
    (∃ t, exec c s = .next t ∧ t.pending = s.pending) ∨
      ∃ segment reads, c = .servoMarkCapture segment reads ∧ 64000 ≤ segment ∧ exec c s = .fault .noSuchSegment

/-- Power-on values of every block: R45, R66, R87, R103, R117, R138, R155, R169, R189, R196 and R198 in their power-on
columns, for the fields named here. -/
def Obligations.ResetValues : Prop :=
  let s := State.reset
  s.link.queue = [] ∧ s.link.refused = false ∧ s.link.outstanding = none ∧ s.att.pending = 0 ∧ s.att.seen = 0 ∧
  s.settings.restartThreshold = 32 ∧ s.settings.rewriteThreshold = 1 ∧ s.settings.retryLimit = 4 ∧
  s.settings.minStep = 0 ∧ s.settings.maxStep = 5 ∧ s.settings.mask = 0 ∧
  s.medium.state = .empty ∧ s.medium.identity = none ∧
  s.transport.state = .parked ∧ s.transport.tension = .none ∧ s.transport.known = false ∧ s.transport.active = none ∧
  s.transport.standby = none ∧ s.transport.synth = .off ∧ s.transport.slips = 0 ∧ s.transport.step = 0 ∧
  s.tape.gate = false ∧ s.queue.slots = List.replicate 128 Slot.empty ∧
  s.engine.block = none ∧ s.engine.ring = [] ∧ s.engine.walk = none ∧ s.port.phase = .idle ∧
  s.writer.state = .idle ∧ s.writer.session = none ∧ s.writer.deferred = none ∧ s.reader.state = .idle ∧
  s.catalog.blockCount = 0 ∧ s.catalog.extents = [] ∧ s.catalog.positionValid = false ∧ s.catalog.zones = Zone.defaults ∧
  s.gov.step = 0 ∧ s.gov.down = 0 ∧ s.gov.quick = false ∧
  s.head.table = List.replicate 18 Element.unscanned ∧ s.head.ci = 0 ∧ s.head.pc = 0 ∧ s.head.meter = 0 ∧
  s.head.level = .none ∧ s.head.last = .clean ∧ s.head.records = []

/-- The invariant holds after power-on (R88, R158, R170, R198). -/
def Obligations.ResetMeetsTheInvariant : Prop := State.reset.WellFormed

/-- Every step keeps the invariant: the configuration values stay inside their ranges with the minimum step at most the maximum
and the DEAD threshold at most the WEAK (R198, R158, R171), the current step stays inside the configured range (R158 to R161),
the queue keeps its 128 slots (R88) and the Head Element Table its 18 entries (R170). -/
def Obligations.StepKeepsTheInvariant : Prop :=
  ∀ s t : State, s.WellFormed → step s = .next t → t.WellFormed

/-- A command changes no configuration value but CONFIGURE, in a frame or as its own row, and power-on (R198). -/
def Obligations.OnlyConfigureChangesTheSettings : Prop :=
  ∀ (c : Instr) (s t : State), exec c s = .next t →
    (∀ tag pairs, c ≠ .configure tag pairs) →
    (∀ bytes tag pairs, c = .linkTransaction bytes → parseFrame bytes ≠ .request (.configure tag pairs)) →
    (∀ a b d, c ≠ .powerOnReset a b d) → t.settings = s.settings

/-- The current step is the Governor's: it changes at a window's end, at a CONFIGURE and at power-on alone (R159, R161, R169). -/
def Obligations.OnlyTheGovernorChangesTheCurrentStep : Prop :=
  ∀ (c : Instr) (s t : State), exec c s = .next t → c ≠ .governorWindowEnd →
    (∀ tag pairs, c ≠ .configure tag pairs) →
    (∀ bytes tag pairs, c = .linkTransaction bytes → parseFrame bytes ≠ .request (.configure tag pairs)) →
    (∀ a b d, c ≠ .powerOnReset a b d) → t.gov.step = s.gov.step

/-- POWER_ON_RESET puts every block at its power-on values (R66): with the slot empty the state is that of power-on; a cartridge
present is being read in EMPTY with its tab sampled; a tape left threaded is unthreaded. The queue of commands is the model's
and stays. -/
def Obligations.PowerOnReset : Prop :=
  ∀ (s : State) (tab leader : Bool),
    exec (.powerOnReset false tab leader) s = .next { State.reset with pending := s.pending } ∧
    exec (.powerOnReset true tab false) s = .next { State.reset with
      pending := s.pending
      medium := { State.reset.medium with present := true, sampledTab := tab, reading := true, phase := .readingRecord } } ∧
    ∃ t, exec (.powerOnReset true tab true) s = .next t ∧ t.medium.state = .unthreading ∧ t.medium.phase = .windingBack ∧
      t.medium.reading = true ∧ t.medium.sampledTab = tab ∧ t.transport.state = .threadMotion ∧ t.settings = Settings.default ∧
      t.link = State.reset.link ∧ t.att = State.reset.att ∧ t.writer = Writer.idle ∧ t.reader = Reader.idle ∧
      t.catalog = Catalog.unmounted ∧ t.head = State.reset.head ∧ t.gov = State.reset.gov ∧ t.pending = s.pending

/-! ### The Command Link -/

/-- A request is taken only when the 16 places of the response queue leave one for its answer beside that of the outstanding
operation; without room it is refused, the refusal is marked, and nothing else changes (R190). -/
def Obligations.RequestWithoutRoomIsRefused : Prop :=
  ∀ (c : Instr) (s : State) (tag : Byte), requestTag c = some tag →
    16 < s.link.queue.length + 1 + (if s.link.outstanding.isSome then 1 else 0) →
    exec c s = .next { s with link := { s.link with refused := true } }

/-- The ATTENTION line (R197): asserted exactly while some kind is pending and unmasked; the mask is a configuration value with one bit
a kind, numbered as in the table of kinds, and masks none by default; a raise, the pending marks of STATUS and an acknowledgement
take no account of the mask; the link byte's bit 5 and STATUS show the line. -/
def Obligations.AttentionLine : Prop :=
  (∀ (a : Attention) (mask : Byte),
    attentionLine a mask = true ↔ ∃ k : Kind, a.pending &&& k.bit ≠ 0 ∧ mask &&& k.bit = 0) ∧
  State.reset.settings.mask = 0 ∧
  (∀ (v : Settings) (value : Nat), v.put 0x13 value = some { v with mask := BitVec.ofNat 8 value }) ∧
  [Kind.mediumChange, .deferredError, .cleaningCall, .headCondition, .mediumSuspect, .zoneOverlap, .scanDone,
    .earlyWarning].map Kind.bit = [1#8 <<< 0, 1#8 <<< 1, 1#8 <<< 2, 1#8 <<< 3, 1#8 <<< 4, 1#8 <<< 5, 1#8 <<< 6, 1#8 <<< 7] ∧
  (∀ (a : Attention) (k : Kind), (a.raise k).pending &&& k.bit ≠ 0) ∧
  (∀ (a : Attention) (k : Kind), a.pending &&& k.bit ≠ 0 → a.seen &&& k.bit ≠ 0 →
    (a.acknowledge k.bit).pending &&& k.bit = 0) ∧
  ∀ s : State, s.linkByte.getLsbD 5 = attentionLine s.att s.settings.mask ∧
    s.statusReport.attention = attentionLine s.att s.settings.mask ∧ s.statusReport.pendingKinds = s.att.pending

/-- A transaction (R190, R191, R192). For each byte clocked in one byte goes out: first the link byte, then the oldest response's frame,
then zeros; a response wholly shifted leaves the queue, and a refusal shown is cleared. A transaction of no byte, or whose first
byte is 0x00, brings no request, and nothing else changes; that one of no byte leaves a refusal standing, no link byte having been
shown, is the model's reading (assumption 10), R190 and R191 being silent on it. A request frame runs the row of its request on the state that the
shifting leaves; a malformed frame is answered BAD_REQUEST with its tag when there is room. A frame is malformed when fewer than 4 bytes
of it have come, when its code is not of section 11.9, when its parameter length is not one that the code takes, or when fewer bytes
have come than that length asks; any other is a request with its tag. The length of LOAD MEDIUM RECORDS is that of the record count
it begins with. -/
def Obligations.LinkTransactions : Prop :=
  (∀ (bytes : List Byte) (s : State), bytes = [] ∨ bytes.head? = some 0 →
     let frame := (s.link.queue.head?.map Response.bytes).getD []
     exec (.linkTransaction bytes) s = .next { s with link := { s.link with
       shiftedOut := ((s.linkByte :: frame) ++ List.replicate bytes.length 0).take bytes.length
       queue := if frame.length + 1 ≤ bytes.length then s.link.queue.drop 1 else s.link.queue
       refused := s.link.refused && bytes.isEmpty } }) ∧
  (∀ (bytes : List Byte) (c : Instr) (s : State), parseFrame bytes = .request c →
    exec (.linkTransaction bytes) s = exec c (s.shiftOut bytes.length)) ∧
  (∀ (bytes : List Byte) (tag : Byte) (s : State), parseFrame bytes = .bad tag →
    (s.shiftOut bytes.length).hasRoom = true →
    exec (.linkTransaction bytes) s = .next ((s.shiftOut bytes.length).respond tag .badRequest .none)) ∧
  (∀ bytes : List Byte, bytes ≠ [] → bytes.head? ≠ some 0 → bytes.length < 4 → parseFrame bytes = .bad (bytes.getD 1 0)) ∧
  ∀ (code tag high low : Byte) (more : List Byte), code ≠ 0 →
    let n := high.toNat * 256 + low.toNat
    let records := (more.headD 0).toNat
    let takes : Prop :=
      code.toNat ∈ [0x01, 0x04, 0x07, 0x08, 0x09, 0x0B, 0x0D, 0x0E, 0x20, 0x21, 0x28, 0x2A] ∧ n = 0 ∨
      code.toNat = 0x02 ∧ n = 1 ∨ code.toNat ∈ [0x23, 0x24, 0x25] ∧ n = 2 ∨ code.toNat = 0x29 ∧ n = 4 ∨
      code.toNat ∈ [0x05, 0x22, 0x26, 0x27] ∧ n = 5 ∨ code.toNat ∈ [0x06, 0x0A] ∧ n = 9 ∨
      code.toNat = 0x03 ∧ (∃ pairs, 1 ≤ pairs ∧ pairs ≤ 19 ∧ n = 5 * pairs) ∨
      code.toNat = 0x0C ∧ records ≤ 42 ∧ n = 1 + 24 * records
    (takes → n ≤ more.length → ∃ c, parseFrame (code :: tag :: high :: low :: more) = .request c ∧ requestTag c = some tag) ∧
    (¬takes ∨ more.length < n → parseFrame (code :: tag :: high :: low :: more) = .bad tag)

/-! ### Immediate requests -/

/-- STATUS answers OK with the snapshot of the instant it is taken and marks every pending kind seen; nothing else changes (R195,
R196). The snapshot shows the seen marks as they stood before (the model's choice, assumption 7). -/
def Obligations.StatusMarksSeen : Prop :=
  ∀ (tag : Byte) (s : State), s.hasRoom = true →
    exec (.status tag) s = .next { s with
      att := { s.att with seen := s.att.seen ||| s.att.pending }
      link := { s.link with queue := s.link.queue ++ [{ tag := tag, code := .ok, payload := .status s.statusReport }] } }

/-- ACK ATTENTION clears pending and seen of each kind of its set that is both pending and seen, and of no other; the response names
the kinds cleared and the kinds still pending (R196). -/
def Obligations.AckAttentionClears : Prop :=
  ∀ (tag kinds : Byte) (s : State), s.hasRoom = true →
    let cleared := kinds &&& s.att.pending &&& s.att.seen
    exec (.ackAttention tag kinds) s = .next { s with
      att := { pending := s.att.pending &&& ~~~cleared, seen := s.att.seen &&& ~~~cleared }
      link := { s.link with queue := s.link.queue ++
        [{ tag := tag, code := .ok, payload := .acknowledged cleared (s.att.pending &&& ~~~cleared) }] } }

/-- READ CONFIGURATION, READ ZONES, READ HEAD TABLE, READ CONDITION and READ MEDIUM RECORDS answer OK with their values as they stand,
and change nothing else (R33, R170, R187, R188, R198). -/
def Obligations.ReadRequestsAnswer : Prop :=
  ∀ (tag : Byte) (s : State), s.hasRoom = true →
    exec (.readConfiguration tag) s = .next (s.respond tag .ok (.settings s.settings)) ∧
    exec (.readZones tag) s = .next (s.respond tag .ok (.zones s.catalog.zones)) ∧
    exec (.readHeadTable tag) s =
      .next (s.respond tag .ok (.headTable s.head.table (deadCount s.head.table) s.head.worn s.head.scanner)) ∧
    exec (.readCondition tag) s = .next (s.respond tag .ok (.condition s.head.condition)) ∧
    exec (.readMediumRecords tag) s = .next (s.respond tag .ok (.mediumRecords s.head.records))

/-- CONFIGURE with 1 to 19 pairs of different known identifiers (R198): each value carried is taken by its identifier of section 11.9, as
the nearest end of its range of section 11.8 when outside it, a switch on for any value but 0, the mask its low 8 bits; a value not
carried stays; then the minimum step is at most the maximum and the dead threshold at most the weak one (R158, R171). The values are
taken together and answered; each entry is evaluated against the new thresholds; the current step moves to the nearest end of the new
range, with the down-count 0, only when it lies outside; the Cleaning Call level is evaluated; one that sets the relax timeout to 0
stops the timer (R84, R161, R171, R185). Slots, catalog, cartridge and counter stay. That the Transport State and the queue stay whatever the timeouts become is the model's choice (assumptions 1 and 8): it keeps no
elapsed time, so that the expiry which R84, R92 and R198 let a shortened timeout make at once comes as an event of its own. One that
carries no pair, more than 19, an identifier twice, or one outside 0x01 to 0x13 is BAD_REQUEST and changes no value. -/
def Obligations.ConfigureTakesOrRejects : Prop :=
  (∀ (tag : Byte) (pairs : List (Byte × Word32)) (s : State), s.hasRoom = true →
     pairs ≠ [] → pairs.length ≤ 19 → (pairs.map Prod.fst).Nodup → (∀ p ∈ pairs, 1 ≤ p.1.toNat ∧ p.1.toNat ≤ 0x13) →
     let carried (ident : Nat) : Option Nat := (pairs.find? fun p => p.1.toNat == ident).map fun p => p.2.toNat
     let taken (ident low high old : Nat) : Nat := ((carried ident).map fun x => max low (min high x)).getD old
     let switch (ident : Nat) (old : Bool) : Bool := ((carried ident).map fun x => decide (1 ≤ x)).getD old
     let old := s.settings
     let v : Settings :=
       { restartThreshold := taken 0x01 8 96 old.restartThreshold, rewriteThreshold := taken 0x02 1 2 old.rewriteThreshold
         retryLimit := taken 0x03 0 7 old.retryLimit
         minStep := min (taken 0x04 0 5 old.minStep) (taken 0x05 0 5 old.maxStep), maxStep := taken 0x05 0 5 old.maxStep
         relaxTimeout := taken 0x06 0 255 old.relaxTimeout, fillTimeout := taken 0x07 1 255 old.fillTimeout
         earlyDistance := taken 0x08 100 4000 old.earlyDistance, cleanThreshold := taken 0x09 200 900 old.cleanThreshold
         cleanInterval := taken 0x0A 1000 60000 old.cleanInterval, weakThreshold := taken 0x0B 0 255 old.weakThreshold
         deadThreshold := min (taken 0x0C 0 255 old.deadThreshold) (taken 0x0B 0 255 old.weakThreshold)
         scanA := taken 0x0D 0 255 old.scanA, scanB := taken 0x0E 0 255 old.scanB, scanStart := taken 0x0F 0 17 old.scanStart
         follow := switch 0x10 old.follow, defaultCompression := switch 0x11 old.defaultCompression
         zoneStrict := switch 0x12 old.zoneStrict
         mask := ((carried 0x13).map fun x => BitVec.ofNat 8 (x % 256)).getD old.mask }
     ∃ t, exec (.configure tag pairs) s = .next t ∧ t.settings = v ∧
       t.link = { s.link with queue := s.link.queue ++ [{ tag := tag, code := .ok, payload := .settings v }] } ∧
       t.head.table = s.head.table.map (Element.evaluate v) ∧
       t.gov.step = clamp v.minStep v.maxStep s.gov.step ∧
       t.gov.down = (if clamp v.minStep v.maxStep s.gov.step = s.gov.step then s.gov.down else 0) ∧
       t.head.level = cleaningLevel v s.head.ci s.head.meter ∧ t.head.ci = s.head.ci ∧ t.head.meter = s.head.meter ∧
       t.transport.relaxTimer = (s.transport.relaxTimer && (carried 0x06 != some 0)) ∧
       t.transport.pos = s.transport.pos ∧ t.transport.state = s.transport.state ∧ t.medium = s.medium ∧ t.tape = s.tape ∧
       t.queue = s.queue ∧ t.engine = s.engine ∧ t.port = s.port ∧ t.writer = s.writer ∧ t.reader = s.reader ∧
       t.catalog = s.catalog) ∧
  ∀ (tag : Byte) (pairs : List (Byte × Word32)) (s : State), s.hasRoom = true →
    (pairs = [] ∨ 19 < pairs.length ∨ ¬(pairs.map Prod.fst).Nodup ∨
      ∃ p ∈ pairs, p.1.toNat = 0 ∨ 0x13 < p.1.toNat) →
    exec (.configure tag pairs) s = .next (s.respond tag .badRequest .none)

/-- QUERY CATALOG in MOUNTED answers by block with the record that holds the block's header, first block ≤ b < first block + block count (the
first such record in the table), and by index with that record; beyond them
END_OF_DATA with the last record; another selector is BAD_REQUEST, another Medium State NOT_READY (R33, R191). -/
def Obligations.QueryCatalogAnswers : Prop :=
  ∀ (tag selector : Byte) (value : Word32) (s : State), s.hasRoom = true →
    let v := value.toNat
    let es := s.catalog.extents
    let last := es.getLast?.map fun e => (es.length - 1, e)
    (selector ≠ 1 → selector ≠ 2 → exec (.queryCatalog tag selector value) s = .next (s.respond tag .badRequest .none)) ∧
    (selector = 1 ∨ selector = 2 → s.medium.state ≠ .mounted →
      exec (.queryCatalog tag selector value) s = .next (s.respond tag .notReady .none)) ∧
    (s.medium.state = .mounted → v < s.catalog.blockCount → ∀ i e, es[i]? = some e →
      e.firstBlock ≤ v → v < e.firstBlock + e.blocks →
      (∀ j x, j < i → es[j]? = some x → ¬(x.firstBlock ≤ v ∧ v < x.firstBlock + x.blocks)) →
      exec (.queryCatalog tag 1 value) s = .next (s.respond tag .ok (.catalog s.catalog.report (some (i, e))))) ∧
    (s.medium.state = .mounted → s.catalog.blockCount ≤ v →
      exec (.queryCatalog tag 1 value) s = .next (s.respond tag .endOfData (.catalog s.catalog.report last))) ∧
    (s.medium.state = .mounted → ∀ e, es[v]? = some e →
      exec (.queryCatalog tag 2 value) s = .next (s.respond tag .ok (.catalog s.catalog.report (some (v, e))))) ∧
    (s.medium.state = .mounted → es.length ≤ v →
      exec (.queryCatalog tag 2 value) s = .next (s.respond tag .endOfData (.catalog s.catalog.report last)))

/-- SET ZONE. In MOUNTED, with the tab off, a zone not WRITE_ONCE, no cartridge memory write in progress and catalog valid clear, the
zone is stored with its base's low k bits cleared and k clamped to 4 to 31, dirty is set, and nothing else changes (R32); with
catalog valid set the write that clears it comes first and the Zone Table is unchanged till then (R52); that this holds for values equal to
the stored zone's too is the model's reading (assumption 46). A zone above 7 or a
value outside its set is BAD_REQUEST; outside MOUNTED NOT_READY or BUSY by the Medium State; then WRITE_PROTECTED by the tab, and
ZONE_PROTECTED for a WRITE_ONCE zone (R32, R191). -/
def Obligations.SetZone : Prop :=
  (∀ (tag zone enabled k access compression : Byte) (base : Word32) (s : State) (en comp : Bool) (acc : Access),
     s.hasRoom = true → s.medium.state = .mounted → s.isProtected = false → s.cmBusy = false → zone.toNat ≤ 7 →
     parseSwitch enabled.toNat = some en → Access.parse access.toNat = some acc →
     parseCompression compression.toNat = some comp →
     (s.catalog.zones.getD zone.toNat Zone.unused).access ≠ .writeOnce →
     let k' := clamp 4 31 k.toNat
     let z : Zone := { enabled := en, base := base.toNat / 2 ^ k' * 2 ^ k', k := k', access := acc, compression := comp }
     (s.catalogValid = false →
       exec (.setZone tag zone enabled base k access compression) s = .next
         { s with
           catalog := { s.catalog with zones := s.catalog.zones.set zone.toNat z, dirty := true }
           link := { s.link with queue := s.link.queue ++ [{ tag := tag, code := .ok, payload := .zone z }] } }) ∧
     ∀ r, s.catalogValid = true → s.memoryFault = false → s.medium.identity.bind Identity.record = some r →
       exec (.setZone tag zone enabled base k access compression) s = .next
         { s with medium := { s.medium with
             write := some { purpose := .setZone tag zone.toNat z, record := { r with valid := false }, second := false } } }) ∧
  ∀ (tag zone enabled k access compression : Byte) (base : Word32) (s : State), s.hasRoom = true →
    let answer (code : Code) : Prop :=
      exec (.setZone tag zone enabled base k access compression) s = .next (s.respond tag code .none)
    let good := zone.toNat ≤ 7 ∧ enabled.toNat ≤ 1 ∧ (1 ≤ access.toNat ∧ access.toNat ≤ 3) ∧
      (1 ≤ compression.toNat ∧ compression.toNat ≤ 2)
    (¬good → answer .badRequest) ∧
    (good → ∀ m ∈ [MediumState.empty, .seated, .ejected, .stuck, .cleaning], s.medium.state = m → answer .notReady) ∧
    (good → ∀ m ∈ [MediumState.threading, .mounting, .rebuilding, .unmounting, .unthreading], s.medium.state = m →
      answer .busy) ∧
    (good → s.medium.state = .mounted → s.isProtected = true → answer .writeProtected) ∧
    (good → s.medium.state = .mounted → s.isProtected = false →
      (s.catalog.zones.getD zone.toNat Zone.unused).access = .writeOnce → answer .zoneProtected)

/-- LOAD CONDITION in EMPTY, SEATED or EJECTED takes CI and the meter, each clamped, and the last attribution, evaluates the level, and
answers them; elsewhere it is BUSY (R188). An attribution outside its set is BAD_REQUEST in every Medium State: that this comes before
BUSY is the model's reading of R191 and R192 (assumption 13), R188 naming BUSY first. -/
def Obligations.LoadConditionTakes : Prop :=
  ∀ (tag attribution : Byte) (ci meter : Word32) (s : State), s.hasRoom = true →
    (∀ a, Attribution.parse attribution.toNat = some a → s.medium.state.unthreadedState = true →
      let level := cleaningLevel s.settings (min 1000 ci.toNat) (min 65535 meter.toNat)
      ∃ t, exec (.loadCondition tag ci meter attribution) s = .next t ∧
        t.head = { s.head with ci := min 1000 ci.toNat, meter := min 65535 meter.toNat, last := a, level := level } ∧
        t.att = (if s.head.level.rank < level.rank then s.att.raise .cleaningCall else s.att) ∧
        t.link = { s.link with queue := s.link.queue ++
          [{ tag := tag, code := .ok, payload := .conditionTaken (min 1000 ci.toNat) (min 65535 meter.toNat) a level }] } ∧
        t.settings = s.settings ∧ t.medium = s.medium ∧ t.transport = s.transport ∧ t.tape = s.tape ∧ t.queue = s.queue ∧
        t.engine = s.engine ∧ t.port = s.port ∧ t.writer = s.writer ∧ t.reader = s.reader ∧ t.catalog = s.catalog ∧
        t.gov = s.gov) ∧
    (∀ a, Attribution.parse attribution.toNat = some a → s.medium.state.unthreadedState = false →
      exec (.loadCondition tag ci meter attribution) s = .next (s.respond tag .busy .none)) ∧
    (Attribution.parse attribution.toNat = none →
      exec (.loadCondition tag ci meter attribution) s = .next (s.respond tag .badRequest .none))

/-- LOAD MEDIUM RECORDS (R187). In EMPTY, SEATED or EJECTED the table becomes the records carried, in the order carried, the first of each
serial kept, a last failure rate above 1,000 taken as 1,000 and a suspect count above 15 as 15, and the mount sequence rises to the
highest last mount sequence among those taken; the response counts the records taken and dropped. A last attribution outside HEAD,
MEDIUM and CLEAN is BAD_REQUEST in every Medium State (that this comes before BUSY is the model's reading of R191 and R192, assumption
13), another Medium State BUSY, and then more than 32 records BAD_REQUEST; each leaves everything else as it was. -/
def Obligations.LoadMediumRecordsReplaces : Prop :=
  ∀ (tag : Byte) (records : List WireRecord) (s : State), s.hasRoom = true →
    let good : Prop := ∀ w ∈ records, 1 ≤ w.lastAttribution.toNat ∧ w.lastAttribution.toNat ≤ 3
    let unthreaded : Prop := s.medium.state ∈ [MediumState.empty, .seated, .ejected]
    let answer (code : Code) : Prop := exec (.loadMediumRecords tag records) s = .next (s.respond tag code .none)
    let made (w : WireRecord) : MediumRecord :=
      { serial := w.serial, mounts := w.mounts.toNat, lastSeq := w.lastMountSeq.toNat
        lastRate := min 1000 w.lastFailureRate.toNat, charge := w.charge.toNat, suspect := min 15 w.suspectCount.toNat
        attribution := if w.lastAttribution.toNat = 1 then .head else if w.lastAttribution.toNat = 2 then .medium else .clean }
    let firsts := (List.range records.length).filter fun i =>
      (records.take i).all fun w => (records[i]?.map WireRecord.serial) != some w.serial
    let kept := (firsts.filterMap fun i => records[i]?).map made
    (good → unthreaded → records.length ≤ 32 → ∃ top : Nat, exec (.loadMediumRecords tag records) s = .next
      { s with
        head := { s.head with records := kept, mountSeq := top }
        link := { s.link with queue := s.link.queue ++
          [{ tag := tag, code := .ok, payload := .recordsTaken kept.length (records.length - kept.length) }] } } ∧
      s.head.mountSeq ≤ top ∧ (∀ r ∈ kept, r.lastSeq ≤ top) ∧ (top = s.head.mountSeq ∨ ∃ r ∈ kept, top = r.lastSeq)) ∧
    (¬good → answer .badRequest) ∧
    (good → ¬unthreaded → answer .busy) ∧
    (good → unthreaded → 32 < records.length → answer .badRequest)

/-- ABORT (R193). With nothing outstanding NOTHING_TO_ABORT; of a LOAD, an UNLOAD or a RETIRE FROM ABORT_REFUSED; neither has any other
effect. Of a LOCATE at its own work: ABORT's OK goes into the queue before the LOCATE's ABORTED, no operation is outstanding,
position-valid is cleared with the location absent, and the tape, when it moves, is brought to an immediate stop with both plans
empty (R37, R83). That the LOCATE's ABORTED follows at once, while the tape still moves, is the model's choice (assumption 25): R37 and
R193 let it come later. Of a SCAN HEAD at its own work while the tape moves: OK, the window pair under way is discarded, a controlled
stop naming no resume segment is demanded, and ABORTED waits for rest (R177); that the stop is such a one in LOCATING too is the
model's choice (assumption 63). -/
def Obligations.Aborts : Prop :=
  (∀ (tag : Byte) (s : State), s.hasRoom = true →
     (s.link.outstanding = none → exec (.abort tag) s = .next (s.respond tag .nothingToAbort .none)) ∧
     ∀ o, s.link.outstanding = some o → (o.op = .load ∨ o.op = .unload ∨ ∃ b, o.op = .retireFrom b) →
       exec (.abort tag) s = .next (s.respond tag .abortRefused .none)) ∧
  (∀ (tag : Byte) (s : State) (c : Scan) (w : Byte), s.hasRoom = true → s.Settled → s.head.scan = some c →
     s.link.outstanding = some { op := .scanHead, tag := w, phase := .working } →
     s.transport.state ∈ [TransportState.streaming, .turnaround, .locating] → s.transport.stop = .none →
     ∃ t, exec (.abort tag) s = .next t ∧
       t.link = { s.link with queue := s.link.queue ++ [{ tag := tag, code := .ok, payload := .none }] } ∧
       t.head = { s.head with scan := some { c with measuring := false, signal := none, ending := some .aborted } } ∧
       t.transport = { s.transport with stop := .demanded none, deferred := none } ∧ t.att = s.att ∧
       t.settings = s.settings ∧ t.medium = s.medium ∧ t.tape = s.tape ∧ t.queue = s.queue ∧ t.engine = s.engine ∧
       t.port = s.port ∧ t.writer = s.writer ∧ t.reader = s.reader ∧ t.catalog = s.catalog) ∧
  ∀ (tag : Byte) (s : State) (t0 : LocateTarget) (w : Byte), s.hasRoom = true → s.Settled →
    s.link.outstanding = some { op := .locate t0, tag := w, phase := .working } →
    ∃ t, exec (.abort tag) s = .next t ∧
      t.link = { s.link with
        outstanding := none
        queue := s.link.queue ++ [{ tag := tag, code := .ok, payload := .none }, { tag := w, code := .aborted, payload := .none }] } ∧
      t.catalog.positionValid = false ∧ t.catalog.location = none ∧ t.catalog.work = .idle ∧
      t.catalog.extents = s.catalog.extents ∧ t.catalog.current = s.catalog.current ∧
      (s.transport.state.moving = true → t.transport.stop = .immediate ∧ t.transport.active = none ∧
        t.transport.standby = none ∧ t.tape.gate = false) ∧
      t.transport.pos = s.transport.pos ∧ t.settings = s.settings ∧ t.att = s.att ∧ t.medium = s.medium ∧ t.port = s.port ∧
      t.writer = s.writer ∧ t.head = s.head

/-- RESET DRIVE (R194): OK, the session, the read-ahead, the block record, the port, the scan and the catalog work ended, every slot
FREE, the Deferred Error record cleared, the down-count 0 and the quick-fall mark clear; the configuration values, the current
step, the counter and the element table stay (R103, R117, R138, R155, R169, R189, R198). Every attention mark is cleared; the
commit of PC that a mount's end brings may raise MEDIUM_SUSPECT and CLEANING_CALL anew (R181). A LOCATE outstanding is answered
ABORTED after the OK, and so is a WRITE BLOCKS of an open session in MOUNTED, whose payload shows Current Block as the reset has left
it, at block count (R45, R194); that it shows the blocks that the request had accepted is the model's choice (assumption 44). -/
def Obligations.ResetDriveClears : Prop :=
  ∀ (tag : Byte) (s : State), s.hasRoom = true →
    (s.link.outstanding = none → ∃ t, exec (.resetDrive tag) s = .next t ∧
      t.link.queue = s.link.queue ++ [{ tag := tag, code := .ok, payload := .none }] ∧ t.link.outstanding = none ∧
      t.writer.session = none ∧ t.writer.deferred = none ∧ t.writer.state = .idle ∧ t.reader = Reader.idle ∧
      t.engine.block = none ∧ t.engine.ring = [] ∧ t.engine.walk = none ∧ t.port.phase = .idle ∧ t.head.scan = none ∧
      t.catalog.work = .idle ∧ t.queue.slots = List.replicate 128 Slot.empty ∧ t.gov.down = 0 ∧ t.gov.quick = false ∧
      t.gov.step = s.gov.step ∧ t.settings = s.settings ∧ t.head.table = s.head.table ∧ t.head.meter = s.head.meter ∧
      t.transport.pos = s.transport.pos ∧ t.att.seen = 0 ∧
      t.att.pending &&& ~~~(Kind.mediumSuspect.bit ||| Kind.cleaningCall.bit) = 0 ∧
      (s.medium.state ∈ [MediumState.empty, .seated, .ejected] →
        t.att = { pending := 0, seen := 0 } ∧ t.head = { s.head with scan := none })) ∧
    (∀ w x, s.link.outstanding = some { op := .locate x, tag := w, phase := .working } →
      ∃ t, exec (.resetDrive tag) s = .next t ∧
        t.link = { s.link with
          outstanding := none
          queue := s.link.queue ++ [{ tag := tag, code := .ok, payload := .none }, { tag := w, code := .aborted, payload := .none }] }) ∧
    ∀ w n k, s.link.outstanding = some { op := .writeBlocks n, tag := w, phase := .working } → s.medium.state = .mounted →
      s.writer.session = some k → s.writer.state ≠ .idle →
      ∃ t, exec (.resetDrive tag) s = .next t ∧ t.catalog.current = s.catalog.blockCount ∧
        t.link = { s.link with
          outstanding := none
          queue := s.link.queue ++ [{ tag := tag, code := .ok, payload := .none },
            { tag := w, code := .aborted
              payload := .written s.writer.accepted s.catalog.blockCount s.catalog.blockCount none }] }

/-! ### Operations -/

/-- The dispatch of an operation request (R192): while an operation is outstanding it is BUSY; in MOUNTED with a Deferred Error record
held it is answered DEFERRED_ERROR with the record, which is cleared (R132). Neither has any other effect. That BUSY carries no payload
for WRITE BLOCKS, WRITE MARKERS, READ BLOCKS and the SPACEs too is the model's choice (assumption 45): R122 and R149 give every response
of theirs one. -/
def Obligations.OperationsAreTurnedAway : Prop :=
  ∀ (c : Instr) (o : Op) (tag : Byte) (s : State), requestTag c = some tag → operationOf c = some o → s.hasRoom = true →
    s.Settled →
    (s.link.outstanding ≠ none → exec c s = .next (s.respond tag .busy .none)) ∧
    ∀ r, s.link.outstanding = none → s.medium.state = .mounted → s.writer.deferred = some r →
      exec c s = .next ({ s with writer := { s.writer with deferred := none } }.respond tag .deferredError (.deferred r))

/-- Operations in a Medium State that does not admit them; nothing else changes. Those that need a mounted cartridge (row 1 of R27, R34,
R120, R133, R141, R152 and R175): NOT_READY in EMPTY, SEATED and EJECTED, MEDIUM_FAULT in STUCK, BUSY in the rest. LOAD and
UNLOAD (R53, R58): NOT_READY in EMPTY and EJECTED, MEDIUM_FAULT in STUCK, BUSY in the states of a sequence under way and, for
LOAD, in MOUNTED; a LOAD of an UNKNOWN cartridge is MEDIUM_UNREADABLE. That WRITE BLOCKS, WRITE MARKERS, READ BLOCKS and the SPACEs
carry no payload when so refused is the model's choice (assumption 45): R122 and R149 give every response of theirs one. -/
def Obligations.OperationsByMediumState : Prop :=
  (∀ (c : Instr) (o : Op) (tag : Byte) (s : State), requestTag c = some tag → operationOf c = some o → o ≠ .load →
     o ≠ .unload → s.hasRoom = true → s.Settled → s.link.outstanding = none → s.medium.reading = false →
     (s.medium.state ∈ [MediumState.empty, .seated, .ejected] → exec c s = .next (s.respond tag .notReady .none)) ∧
     (s.medium.state = .stuck → exec c s = .next (s.respond tag .mediumFault .none)) ∧
     (s.medium.state ∈ [MediumState.threading, .mounting, .rebuilding, .unmounting, .unthreading, .cleaning] →
       exec c s = .next (s.respond tag .busy .none))) ∧
  ∀ (tag : Byte) (s : State), s.hasRoom = true → s.Settled → s.link.outstanding = none → s.medium.reading = false →
    s.writer.deferred = none → ∀ c ∈ [Instr.load tag, Instr.unload tag],
    (s.medium.state ∈ [MediumState.empty, .ejected] → exec c s = .next (s.respond tag .notReady .none)) ∧
    (s.medium.state = .stuck → exec c s = .next (s.respond tag .mediumFault .none)) ∧
    (s.medium.state ∈ [MediumState.threading, .mounting, .rebuilding, .unmounting, .unthreading, .cleaning] →
      exec c s = .next (s.respond tag .busy .none)) ∧
    (s.medium.state = .mounted → exec (.load tag) s = .next (s.respond tag .busy .none)) ∧
    (s.medium.state = .seated → s.medium.identity.bind Identity.record = none →
      exec (.load tag) s = .next (s.respond tag .mediumUnreadable .none))

/-- LOAD of a data cartridge, or of a cleaning cartridge with passes left, in SEATED (R53, R54): THREADING with the first capture
attempt, THREAD_MOTION at threading tension, position known and the slip count cleared, the LOAD outstanding. -/
def Obligations.LoadThreads : Prop :=
  ∀ (tag : Byte) (s : State) (r : CmRecord), s.hasRoom = true → s.Settled → s.link.outstanding = none →
    s.medium.state = .seated → s.medium.reading = false → s.medium.identity.bind Identity.record = some r →
    (r.kind = .data ∨ 0 < r.passes) →
    ∃ t, exec (.load tag) s = .next t ∧
      t.link = { s.link with outstanding := some { op := .load, tag := tag, phase := .working } } ∧
      t.medium = { s.medium with state := .threading, phase := .capturing 1 } ∧
      t.transport.state = .threadMotion ∧ t.transport.tension = .threading ∧ t.transport.synth = .off ∧
      t.transport.known = false ∧ t.transport.slips = 0 ∧ t.transport.active = none ∧ t.transport.standby = none ∧
      t.transport.pos = s.transport.pos ∧ t.tape.gate = false ∧
      t.att = s.att ∧ t.settings = s.settings ∧ t.engine = s.engine ∧ t.port = s.port ∧ t.writer = s.writer ∧
      t.reader = s.reader ∧ t.catalog = s.catalog ∧ t.gov = s.gov ∧ t.head = s.head ∧
      (s.transport.active = none → s.transport.standby = none → t.queue = s.queue)

/-- UNLOAD in SEATED, and LOAD of a cleaning cartridge with no pass left, push the cartridge out: the operation waits for EJECTED, to
end there with OK and with CLEANER_EXPIRED (R49, R53, R58). Nothing else changes. -/
def Obligations.EjectsFromSeated : Prop :=
  ∀ (tag : Byte) (s : State), s.hasRoom = true → s.Settled → s.link.outstanding = none → s.medium.state = .seated →
    s.medium.reading = false →
    let ejecting (o : Op) (code : Code) : State :=
      { s with
        link := { s.link with outstanding := some { op := o, tag := tag, phase := .working } }
        medium := { s.medium with phase := .ejecting, after := some { eject := true, code := some code, retry := false } } }
    exec (.unload tag) s = .next (ejecting .unload .ok) ∧
    ∀ r, s.medium.identity.bind Identity.record = some r → r.kind = .cleaning → r.passes = 0 →
      exec (.load tag) s = .next (ejecting .load .cleanerExpired)

/-- UNLOAD in MOUNTED with no session open (R58 to R60): UNMOUNTING with the catalog at its values of leaving MOUNTED (R45). With
dirty clear the unmount's cartridge memory write begins at once and sets catalog valid; with dirty set and the tab off the save
comes first. -/
def Obligations.UnloadUnmounts : Prop :=
  ∀ (tag : Byte) (s : State) (r : CmRecord), s.hasRoom = true → s.Settled → s.link.outstanding = none →
    s.medium.state = .mounted → s.writer.deferred = none → s.writer.state = .idle → s.writer.session = none →
    s.medium.write = none → s.memoryFault = false → s.medium.identity.bind Identity.record = some r →
    ∃ t, exec (.unload tag) s = .next t ∧ t.medium.state = .unmounting ∧
      t.link = { s.link with outstanding := some { op := .unload, tag := tag, phase := .working } } ∧
      t.settings = s.settings ∧ t.att = s.att ∧ t.port = s.port ∧ t.head = s.head ∧ t.transport.pos = s.transport.pos ∧
      (s.catalog.dirty = false → t.catalog = Catalog.unmounted ∧ t.medium.phase = .unmountWrite ∧
        t.medium.write = some { purpose := .unmount, second := false, record := { r with
          valid := true, sessionCounter := s.catalog.session
          eod := { session := s.catalog.session, stripe := s.catalog.append.stripe, block := s.catalog.blockCount } } }) ∧
      (s.catalog.dirty = true → s.isProtected = false →
        t.catalog = { Catalog.unmounted with work := .save 0 none } ∧ t.medium.phase = .saving ∧ t.medium.write = none)

/-- The stop point of the locate estimate (R35): 4 segments upstream of the proportional estimate, not upstream of the extent's first
segment; segments rise along an even wrap and fall along an odd one. -/
def Obligations.LocateEstimate : Prop :=
  ∀ (e : Extent) (b : Nat), e.firstBlock ≤ b → b < e.firstBlock + e.blocks →
    let offset : Int := ((b - e.firstBlock) * ((e.last - e.first).natAbs + 1) / e.blocks : Nat)
    (e.wrap % 2 = 0 → e.stopPoint b = max e.first (e.first + offset - 4)) ∧
    (e.wrap % 2 = 1 → e.stopPoint b = min e.first (e.first - offset + 4))

/-- LOCATE without a fine search (R18, R37): to the end of data, or a block at or beyond block count, the tape goes to the append point;
to the beginning, or to block 0, to segment 16 of wrap 0. That block 0 and the beginning need no fine search and are travelled to so
is the model's choice (assumption 24), after R18's table. From STOPPED the locate motion begins, by the rewind of R77 while position
known is clear; in RELAXED the tension rises first (R84). The catalog stays till the tape has arrived. -/
def Obligations.LocateTravels : Prop :=
  ∀ (tag target : Byte) (block : Word32) (x : LocateTarget) (req : MotionReq) (s : State), s.hasRoom = true → s.Settled →
    s.link.outstanding = none → s.medium.state = .mounted → s.writer.deferred = none → s.writer.state = .idle →
    s.writer.session = none → LocateTarget.parse target.toNat block.toNat = some x →
    ((x = .endOfData ∨ ∃ b, x = .block b ∧ s.catalog.blockCount ≤ b) ∧ req = .locateEnd s.appendSegment ∨
     (x = .beginning ∨ x = .block 0 ∧ 0 < s.catalog.blockCount) ∧ req = .locateEnd { wrap := 0, seg := 16 }) →
    ∃ t, exec (.locate tag target block) s = .next t ∧
      t.link = { s.link with outstanding := some { op := .locate x, tag := tag, phase := .working } } ∧
      (s.transport.state = .stopped → s.transport.known = true →
        t.transport.state = .locating ∧ t.transport.motion = .travel req) ∧
      (s.transport.state = .stopped → s.transport.known = false →
        t.transport.state = .locating ∧ t.transport.motion = .rewind req) ∧
      (s.transport.state = .relaxed → t.transport.state = .relaxed ∧ t.transport.tension = .working ∧
        t.transport.motion = .retension req) ∧
      (∀ slot ∈ t.queue.slots, slot.isRead = false) ∧ t.reader.state = .idle ∧
      t.catalog = s.catalog ∧ t.medium = s.medium ∧ t.settings = s.settings ∧ t.att = s.att ∧ t.port = s.port ∧
      t.writer = s.writer ∧ t.head = s.head ∧ t.transport.pos = s.transport.pos

/-- LOCATE to a block with a record in the table (R36, R37): the fine search begins at the stop point of the estimate (R35), and from
STOPPED with the position known the tape goes there. -/
def Obligations.LocateSearches : Prop :=
  ∀ (tag : Byte) (block : Word32) (i : Nat) (e : Extent) (s : State), s.hasRoom = true → s.Settled →
    s.link.outstanding = none → s.medium.state = .mounted → s.writer.deferred = none → s.writer.state = .idle →
    s.writer.session = none → 0 < block.toNat → block.toNat < s.catalog.blockCount →
    extentOf s.catalog.extents block.toNat = some (i, e) →
    s.transport.state = .stopped → s.transport.known = true →
    let a : SegAddr := { wrap := e.wrap, seg := e.stopPoint block.toNat }
    ∃ t f, exec (.locate tag 1 block) s = .next t ∧
      t.link = { s.link with outstanding := some { op := .locate (.block block.toNat), tag := tag, phase := .working } } ∧
      t.catalog = { s.catalog with work := .fine f } ∧ f.purpose = .locate ∧ f.target = block.toNat ∧ f.wrap = e.wrap ∧
      f.first = e.first ∧ f.last = e.last ∧ f.next = a ∧ f.backups = 0 ∧ f.retries = 0 ∧ f.found = none ∧
      (s.transport.pos = readyPoint a → t.transport.motion = .stream .fineSearch ∧ t.transport.state = .streaming) ∧
      (s.transport.pos ≠ readyPoint a →
        t.transport.motion = .travel (.stream .fineSearch a) ∧ t.transport.state = .locating) ∧
      t.medium = s.medium ∧ t.settings = s.settings ∧ t.att = s.att ∧ t.port = s.port ∧ t.writer = s.writer ∧
      t.head = s.head ∧ t.transport.pos = s.transport.pos

/-- WRITE BLOCKS and WRITE MARKERS (R120). Past the checks the read-ahead is discarded (R100), the request is outstanding with n blocks
to take and none accepted, and the Data Port awaits a length word (R104, R118). Rows 3 to 6: n = 0 is BAD_REQUEST; then
position-valid clear NOT_READY, the tab WRITE_PROTECTED, two or more elements DEAD HEAD_FAULT, with nothing else changed. That a
request so refused carries no payload is the model's choice (assumption 45): R122 gives every response of a write request one. -/
def Obligations.WriteRequests : Prop :=
  (∀ (tag : Byte) (n : Word16) (s : State), s.hasRoom = true → s.Settled → s.link.outstanding = none →
     s.medium.state = .mounted → s.writer.deferred = none → n ≠ 0 → s.catalog.positionValid = true →
     s.isProtected = false → deadCount s.head.table < 2 → s.writer.state ≠ .failed →
     ∀ c o, (c = .writeBlocks tag n ∧ o = .writeBlocks n.toNat ∨ c = .writeMarkers tag n ∧ o = .writeMarkers n.toNat) →
     ∃ t, exec c s = .next t ∧
       t.link = { s.link with outstanding := some { op := o, tag := tag, phase := .working } } ∧
       t.writer = { s.writer with
         state := .accepting, start := s.catalog.location, requested := n.toNat, accepted := 0, refusal := none } ∧
       t.port = { s.port with phase := .length, lengthWord := none, remaining := 0, bytesLeft := 0, taken := 0 } ∧
       (∀ slot ∈ t.queue.slots, slot.isRead = false) ∧ t.reader.state = .idle ∧
       t.engine.block = s.engine.block ∧ t.engine.ring = s.engine.ring ∧ t.catalog = s.catalog ∧ t.medium = s.medium ∧
       t.settings = s.settings ∧ t.att = s.att ∧ t.head = s.head ∧ t.transport.pos = s.transport.pos) ∧
  ∀ (tag : Byte) (n : Word16) (s : State), s.hasRoom = true → s.Settled → s.link.outstanding = none →
    s.medium.state = .mounted → s.writer.deferred = none → ∀ c ∈ [Instr.writeBlocks tag n, Instr.writeMarkers tag n],
    let answer (code : Code) : Prop := exec c s = .next (s.respond tag code .none)
    (n = 0 → answer .badRequest) ∧
    (n ≠ 0 → s.catalog.positionValid = false → answer .notReady) ∧
    (n ≠ 0 → s.catalog.positionValid = true → s.isProtected = true → answer .writeProtected) ∧
    (n ≠ 0 → s.catalog.positionValid = true → s.isProtected = false → 2 ≤ deadCount s.head.table → answer .headFault)

/-- READ BLOCKS with no read-ahead found, below block count (R141): the read-ahead begins at the stripe of the Current Block location, 4
segments upstream of it but not upstream of the extent's first segment, and the stream is asked for; at block count it ends at
once with END_OF_DATA, and that no read-ahead is kept there is the model's choice (assumption 39). Current Block and its location
stay. -/
def Obligations.ReadBlocksBegins : Prop :=
  ∀ (tag : Byte) (n : Word16) (s : State), s.hasRoom = true → s.Settled → s.link.outstanding = none →
    s.medium.state = .mounted → s.writer.deferred = none → s.writer.state = .idle → s.writer.session = none →
    s.reader.state = .idle → n ≠ 0 → s.catalog.positionValid = true →
    (∀ l i e, s.catalog.current ≠ s.catalog.blockCount → s.catalog.location = some l →
      extentOfStripe s.catalog.extents l.stripe = some (i, e) → s.transport.state = .stopped → s.transport.known = true →
      let first : SegAddr := { wrap := e.wrap, seg := e.first }
      let a := SegAddr.back 4 { wrap := l.wrap, seg := l.seg }
      let start := if ordinal a < ordinal first then first else a
      ∃ t, exec (.readBlocks tag n) s = .next t ∧
        t.link = { s.link with outstanding := some { op := .readBlocks n.toNat, tag := tag, phase := .working } } ∧
        t.reader.state = .reading ∧ t.reader.request = some (.readBlocks n.toNat) ∧ t.reader.nextDrain = some l.stripe ∧
        t.reader.extent = some i ∧ t.reader.nextPlan = some start ∧ t.reader.delivered = 0 ∧ t.reader.sent = 0 ∧
        t.reader.searches = [] ∧ t.reader.halted = false ∧
        (s.transport.pos = readyPoint start → t.transport.motion = .stream .read ∧ t.transport.state = .streaming) ∧
        (s.transport.pos ≠ readyPoint start →
          t.transport.motion = .travel (.stream .read start) ∧ t.transport.state = .locating) ∧
        t.catalog = s.catalog ∧ t.medium = s.medium ∧ t.settings = s.settings ∧ t.att = s.att ∧ t.writer = s.writer ∧
        t.port = s.port ∧ t.head = s.head ∧ t.transport.pos = s.transport.pos) ∧
    (s.catalog.current = s.catalog.blockCount →
      ∃ t, exec (.readBlocks tag n) s = .next t ∧
        t.link = { s.link with queue := s.link.queue ++
          [{ tag := tag, code := .endOfData,
             payload := .read 0 0 s.catalog.current s.catalog.blockCount 0 none none }] } ∧
        t.catalog = s.catalog ∧ t.reader.state = .idle ∧ t.transport = s.transport ∧ t.medium = s.medium ∧
        t.writer = s.writer ∧ t.head = s.head ∧ t.att = s.att)

/-- SPACE BLOCKS with no session open (R152): FORWARD to block count or beyond ends there with END_OF_DATA and the blocks passed;
BACKWARD beyond block 0 ends at 0 with BEGINNING_OF_DATA, exactly at 0 with OK. That these ends move no tape, the transport staying STOPPED
with no motion and the counter where it stands, is the model's choice (assumption 42); in between the fine search for the new Current Block begins. -/
def Obligations.SpaceBlocksMoves : Prop :=
  ∀ (tag : Byte) (n : Word32) (s : State), s.hasRoom = true → s.Settled → s.link.outstanding = none →
    s.medium.state = .mounted → s.writer.deferred = none → s.writer.state = .idle → s.writer.session = none →
    s.transport.state = .stopped → n ≠ 0 → s.catalog.positionValid = true →
    let c := s.catalog
    let ended (direction : Byte) (code : Code) (passed target : Nat) (l : Option Location) : Prop :=
      ∃ t, exec (.spaceBlocks tag direction n) s = .next t ∧
        t.link = { s.link with queue := s.link.queue ++ [{ tag := tag, code := code, payload := .spaced passed }] } ∧
        t.catalog = { c with current := target, positionValid := true, location := l, work := .idle } ∧
        t.transport.state = .stopped ∧ t.transport.motion = s.transport.motion ∧ t.transport.pos = s.transport.pos ∧
        t.reader.state = .idle ∧ t.medium = s.medium ∧ t.writer = s.writer ∧ t.head = s.head ∧ t.settings = s.settings
    let first : Option Location :=
      if 0 < c.blockCount then some { stripe := 0, wrap := 0, seg := 16, atZero := true, headerOnly := false } else none
    (c.blockCount ≤ c.current + n.toNat → ended 1 .endOfData (c.blockCount - c.current) c.blockCount none) ∧
    (c.current < n.toNat → ended 2 .beginningOfData c.current 0 first) ∧
    (c.current = n.toNat → ended 2 .ok n.toNat 0 first) ∧
    ∀ direction target i e, (direction = 1 ∧ target = c.current + n.toNat ∧ target < c.blockCount ∨
        direction = 2 ∧ n.toNat < c.current ∧ target = c.current - n.toNat) →
      extentOf c.extents target = some (i, e) →
      ∃ t f, exec (.spaceBlocks tag direction n) s = .next t ∧ t.catalog = { c with work := .fine f } ∧
        f.purpose = .space c.current ∧ f.target = target ∧ f.next = { wrap := e.wrap, seg := e.stopPoint target } ∧
        t.link.outstanding = some { op := .spaceBlocks (direction == 1) n.toNat, tag := tag, phase := .working } ∧
        t.reader.state = .spacing ∧ t.medium = s.medium ∧ t.writer = s.writer ∧ t.head = s.head ∧ t.settings = s.settings

/-- SPACE MARKERS with no session open (R153): FORWARD at block count ends there with END_OF_DATA; BACKWARD over an empty table ends at
the beginning; FORWARD from a location in an extent with markers begins the scan at that stripe. That its stream begins 4 segments
upstream of the location but not upstream of the extent is the model's choice (assumption 53), after R141. -/
def Obligations.SpaceMarkersMoves : Prop :=
  ∀ (tag : Byte) (n : Word32) (s : State), s.hasRoom = true → s.Settled → s.link.outstanding = none →
    s.medium.state = .mounted → s.writer.deferred = none → s.writer.state = .idle → s.writer.session = none →
    s.transport.state = .stopped → n ≠ 0 → s.catalog.positionValid = true →
    let c := s.catalog
    (c.location = none → ∃ t, exec (.spaceMarkers tag 1 n) s = .next t ∧
      t.link = { s.link with queue := s.link.queue ++ [{ tag := tag, code := .endOfData, payload := .spaced 0 }] } ∧
      t.catalog = { c with current := c.blockCount, location := none, work := .idle } ∧ t.reader.state = .idle) ∧
    (c.extents = [] → ∃ t, exec (.spaceMarkers tag 2 n) s = .next t ∧
      t.link = { s.link with queue := s.link.queue ++ [{ tag := tag, code := .beginningOfData, payload := .spaced 0 }] } ∧
      t.catalog.current = 0 ∧ t.catalog.positionValid = true ∧ t.reader.state = .idle) ∧
    ∀ l i e, c.location = some l → extentOfStripe c.extents l.stripe = some (i, e) → 0 < e.markers →
      let first : SegAddr := { wrap := e.wrap, seg := e.first }
      let a := SegAddr.back 4 { wrap := l.wrap, seg := l.seg }
      ∃ t m, exec (.spaceMarkers tag 1 n) s = .next t ∧ t.catalog = { c with work := .markers m } ∧ m.forward = true ∧
        m.count = n.toNat ∧ m.left = n.toNat ∧ m.start = c.current ∧ m.want = l.stripe ∧ m.extent = i ∧
        m.next = (if ordinal a < ordinal first then first else a) ∧ t.reader.state = .spacing ∧
        t.link.outstanding = some { op := .spaceMarkers true n.toNat, tag := tag, phase := .working } ∧
        t.medium = s.medium ∧ t.writer = s.writer ∧ t.head = s.head ∧ t.settings = s.settings

/-- FLUSH (R133): with no session it is OK at once and changes nothing else; a session in BEHIND with a READY stripe becomes FLUSHING,
its FILLING slot READY (R91), and the FLUSH waits. -/
def Obligations.FlushBegins : Prop :=
  ∀ (tag : Byte) (s : State), s.hasRoom = true → s.Settled → s.link.outstanding = none → s.medium.state = .mounted →
    s.writer.deferred = none →
    (s.writer.state = .idle → exec (.flush tag) s = .next (s.respond tag .ok .none)) ∧
    (s.writer.state = .behind → (s.queue.slots.any fun x => x.state == .ready) = true →
      ∃ t, exec (.flush tag) s = .next t ∧
        t.link = { s.link with outstanding := some { op := .flush, tag := tag, phase := .flushing } } ∧
        t.writer = { s.writer with state := .flushing } ∧
        (∀ i, s.fillingSlot = some i → (t.slot i).state = .ready ∧ (t.slot i).payload = (s.slot i).payload ∧
          (t.slot i).stripe = (s.slot i).stripe ∧ t.queue.fillTimer = false) ∧
        t.catalog = s.catalog ∧ t.medium = s.medium ∧ t.transport = s.transport ∧ t.engine = s.engine ∧
        t.port = s.port ∧ t.reader = s.reader ∧ t.head = s.head ∧ t.att = s.att ∧ t.settings = s.settings ∧
        t.gov = s.gov ∧ t.tape = s.tape)

/-- RETIRE FROM with no session open (R27): past block count END_OF_DATA; at block count the cartridge memory write of the retirement
begins, with the next session number and its end-of-data record, and nothing is cut before it has succeeded; below it, past the
zone tests, the fine search for the block begins. -/
def Obligations.RetireFromBegins : Prop :=
  ∀ (tag : Byte) (b : Word32) (r : CmRecord) (s : State), s.hasRoom = true → s.Settled → s.link.outstanding = none →
    s.medium.state = .mounted → s.writer.deferred = none → s.writer.state = .idle → s.writer.session = none →
    s.isProtected = false → s.medium.write = none → s.memoryFault = false →
    s.medium.identity.bind Identity.record = some r →
    let c := s.catalog
    (c.blockCount < b.toNat → ∃ t, exec (.retireFrom tag b) s = .next t ∧
      t.link = { s.link with queue := s.link.queue ++ [{ tag := tag, code := .endOfData, payload := .none }] } ∧
      t.catalog = c ∧ t.medium = s.medium) ∧
    (b.toNat = c.blockCount → ∃ t, exec (.retireFrom tag b) s = .next t ∧
      t.link = { s.link with outstanding := some { op := .retireFrom b.toNat, tag := tag, phase := .working } } ∧
      t.medium = { s.medium with write := some { purpose := .retire b.toNat none, second := false, record := { r with
        valid := false, everWritten := true, sessionCounter := min 4294967295 (c.session + 1)
        eod := { session := min 4294967295 (c.session + 1), stripe := c.append.stripe, block := b.toNat } } } } ∧
      t.catalog = c ∧ t.head = s.head ∧ t.att = s.att ∧ t.settings = s.settings) ∧
    ∀ i e, b.toNat < c.blockCount → rangeOverlapped c.zones b.toNat c.blockCount = false →
      rangeProtected c.zones b.toNat c.blockCount = false → extentOf c.extents b.toNat = some (i, e) →
      ∃ t f, exec (.retireFrom tag b) s = .next t ∧ t.catalog = { c with work := .fine f } ∧
        f.purpose = .retire b.toNat ∧ f.target = b.toNat ∧ t.medium = s.medium ∧ t.head = s.head ∧ t.att = s.att

/-- SCAN HEAD with no session open (R175, R176): a scan of all 18 elements begins at the configured start element with A and B as they
stand, the tape being asked to stream from wrap 0, segment 0; Current Block and its location stay. -/
def Obligations.ScanHeadBegins : Prop :=
  ∀ (tag : Byte) (s : State), s.hasRoom = true → s.Settled → s.link.outstanding = none → s.medium.state = .mounted →
    s.writer.deferred = none → s.writer.state = .idle → s.writer.session = none → s.transport.state = .stopped →
    s.transport.known = true →
    ∃ t c, exec (.scanHead tag) s = .next t ∧
      t.link = { s.link with outstanding := some { op := .scanHead, tag := tag, phase := .working } } ∧
      t.head = { s.head with scan := some c } ∧ c.a = s.settings.scanA ∧ c.b = s.settings.scanB ∧
      c.element = s.settings.scanStart ∧ c.done = 0 ∧ c.postClean = false ∧ c.ending = none ∧
      (s.transport.pos = { wrap := 0, seg := -2, tach := 0 } →
        t.transport.motion = .stream .scan ∧ t.transport.state = .streaming) ∧
      (s.transport.pos ≠ { wrap := 0, seg := -2, tach := 0 } →
        t.transport.motion = .travel (.stream .scan { wrap := 0, seg := 0 }) ∧ t.transport.state = .locating) ∧
      t.catalog = s.catalog ∧ t.medium = s.medium ∧ t.writer = s.writer ∧ t.port = s.port ∧ t.att = s.att ∧
      t.settings = s.settings ∧ t.transport.pos = s.transport.pos

/-! ### The cartridge and the threader -/

/-- The cartridge in the slot. INSERTION samples the tab and reads the record (R48); the end of the reading fills the identity copy and
enters SEATED (R47, R48); EJECT_DONE enters EJECTED and ends an UNLOAD that waited with OK (R49, R58); REMOVAL from SEATED or
EJECTED empties the slot (R46, R49). In a state with the tape out it parks the transport, the operation outstanding ends with
MEDIUM_FAULT, every block's work ends with every slot FREE, and STUCK raises MEDIUM_CHANGE; from MOUNTED or UNMOUNTING the mount is
committed, in MOUNTING and REBUILDING PC and the spread set are discarded, and from the four the catalog takes the values that R45 gives
(R49). That a cartridge memory write still under way is lost with the cartridge, its SET ZONE answered MEDIUM_FAULT, is the model's
choice (assumption 48). -/
def Obligations.CartridgeInTheSlot : Prop :=
  ∀ s : State,
    (∀ tab, s.medium.state = .empty → s.medium.present = false →
      exec (.insertion tab) s = .next { s with medium := { s.medium with
        present := true, sampledTab := tab, reading := true, phase := .readingRecord } }) ∧
    (∀ record, s.Settled → s.link.outstanding = none → s.medium.state = .empty → s.medium.reading = true →
      exec (.cartridgeMemoryReadDone record) s = .next { s with
        medium := { s.medium with
          state := .seated, phase := .idle, reading := false
          identity := some { record := CmRecord.parse record, tab := s.medium.sampledTab, memoryFault := false } }
        att := s.att.raise .mediumChange }) ∧
    (∀ w, s.medium.phase = .ejecting → s.medium.after.bind AfterUnthread.code = some .ok → s.medium.unmount = none →
      s.link.outstanding = some { op := .unload, tag := w, phase := .working } →
      exec .ejectDone s = .next { s with
        medium := { s.medium with state := .ejected, phase := .idle, after := none, unmount := none }
        att := s.att.raise .mediumChange
        link := { s.link with
          outstanding := none, queue := s.link.queue ++ [{ tag := w, code := .ok, payload := .none }] } }) ∧
    (s.Settled → s.link.outstanding = none → s.medium.present = true → s.medium.state ∈ [MediumState.seated, .ejected] →
      s.medium.waiting = [] → s.medium.heldZones = [] →
      let lost : List Response := match s.medium.write.map CmWrite.purpose with
        | some (.setZone tag _ _) => [{ tag := tag, code := .mediumFault, payload := .none }]
        | _ => []
      exec .removal s = .next { s with
        medium := { s.medium with
          state := .empty, phase := .idle, present := false, identity := none, reading := false, after := none
          unmount := none, write := none }
        link := { s.link with queue := s.link.queue ++ lost }
        writer := { s.writer with opening := false }
        att := s.att.raise .mediumChange }) ∧
    (s.medium.present = true →
      s.medium.state ∈ [MediumState.threading, .mounting, .rebuilding, .mounted, .unmounting, .unthreading, .cleaning] →
      let answer : List Response := match s.link.outstanding with
        | none => []
        | some o =>
          let payload := match o.op with
            | .load => .none
            | .unload => s.unloadPayload
            | op => s.endedPayload op
          [{ tag := o.tag, code := .mediumFault, payload := payload }]
      let zoneTags := ((s.medium.write.map CmWrite.purpose).toList ++ s.medium.waiting).filterMap fun p => match p with
        | .setZone tag _ _ => some tag
        | _ => none
      let mounted : Bool := s.medium.state == .mounted || s.medium.state == .unmounting
      let mounting : Bool := s.medium.state == .mounting || s.medium.state == .rebuilding
      ∃ t, exec .removal s = .next t ∧
        t.medium = { s.medium with
          state := .stuck, phase := .idle, present := false, reading := false, after := none, unmount := none
          flushFault := none, resetInWrite := false, write := none, waiting := [], heldZones := [] } ∧
        t.link = { s.link with
          outstanding := none
          queue := s.link.queue ++ answer ++ (zoneTags ++ s.medium.heldZones.map HeldZone.tag).map fun tag =>
            { tag := tag, code := .mediumFault, payload := .none } } ∧
        t.transport.state = .parked ∧ t.transport.tension = .none ∧ t.transport.motion = .idle ∧ t.transport.stop = .none ∧
        t.transport.deferred = none ∧ t.transport.active = none ∧ t.transport.standby = none ∧ t.transport.pendingStep = none ∧
        t.transport.pos = s.transport.pos ∧
        t.tape = { gate := false, writing := none, erase := false, flights := [], underrun := false, served := 0, lost := [] } ∧
        t.queue = { s.queue with slots := s.queue.slots.map fun _ => Slot.empty, fillTimer := false } ∧
        t.engine = { s.engine with block := none, ring := [], walk := none, outflow := [] } ∧
        t.port = { Port.idle with wordOut := s.port.wordOut } ∧
        t.writer = { Writer.idle with deferred := if mounted || mounting then none else s.writer.deferred } ∧
        t.reader = Reader.idle ∧ t.gov = { s.gov with governed := false } ∧ t.settings = s.settings ∧
        (mounted || mounting → t.catalog = Catalog.unmounted) ∧
        (!(mounted || mounting) → s.writer.state = .idle → t.catalog = { s.catalog with work := .idle, rebuilt := none }) ∧
        (mounted → t.head = { s.commitMount.head with scan := none } ∧ t.att = s.commitMount.att.raise .mediumChange) ∧
        (mounting → t.head = { s.head with scan := none, pc := 0, spread := [] } ∧ t.att = s.att.raise .mediumChange) ∧
        (!(mounted || mounting) → t.head = { s.head with scan := none } ∧ t.att = s.att.raise .mediumChange))

/-- Threading and unthreading. A captured leader is wound (R54); a capture timeout brings the next attempt, after the third the unthread
with THREAD_FAULT for the LOAD; after the wind-back THREAD_DRV returns the leader; UNTHREAD_DONE parks the transport and enters
SEATED, where an eject follows or the LOAD ends with its status; UNTHREAD_TIMEOUT leaves STUCK with MEDIUM_FAULT (R62). -/
def Obligations.ThreadingAndUnthreading : Prop :=
  ∀ s : State,
    (∀ k, s.medium.phase = .capturing k →
      exec .leaderCapture s = .next { s with medium := { s.medium with leader := true, phase := .winding } }) ∧
    (∀ k, s.medium.phase = .capturing k → k < 3 →
      exec .captureTimeout s = .next { s with medium := { s.medium with phase := .capturing (k + 1) } }) ∧
    (∀ k, s.medium.phase = .capturing k → 3 ≤ k → s.transport.state = .threadMotion → ∃ t, exec .captureTimeout s = .next t ∧
      t.medium = { s.medium with
        state := .unthreading, phase := (if s.medium.leader then .windingBack else .returning)
        after := some { eject := false, code := some .threadFault, retry := false } } ∧
      t.transport.state = .threadMotion ∧ t.transport.tension = .threading ∧ t.transport.pos = s.transport.pos ∧
      t.link = s.link ∧ t.att = s.att ∧ t.settings = s.settings ∧ t.engine = s.engine ∧ t.port = s.port ∧
      t.writer = s.writer ∧ t.reader = s.reader ∧ t.catalog = s.catalog ∧ t.gov = s.gov ∧ t.head = s.head) ∧
    (s.medium.phase = .windingBack →
      exec .windBackDone s = .next { s with medium := { s.medium with phase := .returning } }) ∧
    (∀ w c p r, s.Settled → s.medium.phase = .returning → s.medium.present = true →
      s.medium.after = some { eject := false, code := some c, retry := r } →
      s.link.outstanding = some { op := .load, tag := w, phase := p } →
      ∃ t, exec .unthreadDone s = .next t ∧
        t.medium = { s.medium with state := .seated, phase := .idle, leader := false, after := none, unmount := none } ∧
        t.link = { s.link with
          outstanding := none, queue := s.link.queue ++ [{ tag := w, code := c, payload := s.loadPayload c }] } ∧
        t.att = s.att.raise .mediumChange ∧ t.transport.state = .parked ∧ t.transport.tension = .none ∧
        t.transport.dutyS = 0 ∧ t.transport.dutyT = 0 ∧ t.transport.pos = s.transport.pos ∧ t.settings = s.settings ∧
        t.catalog = s.catalog ∧ t.head = s.head) ∧
    (∀ c r, s.Settled → s.medium.phase = .returning → s.medium.present = true →
      s.medium.after = some { eject := true, code := c, retry := r } →
      ∃ t, exec .unthreadDone s = .next t ∧
        t.medium = { s.medium with
          state := .seated, phase := .ejecting, leader := false, after := some { eject := true, code := c, retry := false } } ∧
        t.link = s.link ∧ t.att = s.att.raise .mediumChange ∧ t.transport.state = .parked ∧ t.transport.tension = .none ∧
        t.catalog = s.catalog ∧ t.head = s.head) ∧
    ∀ w p, s.Settled → s.medium.phase = .returning → s.link.outstanding = some { op := .load, tag := w, phase := p } →
      ∃ t, exec .unthreadTimeout s = .next t ∧
        t.medium = { s.medium with state := .stuck, phase := .idle, after := none, unmount := none } ∧
        t.link = { s.link with
          outstanding := none, queue := s.link.queue ++ [{ tag := w, code := .mediumFault, payload := .none }] } ∧
        t.att = s.att.raise .mediumChange ∧ t.transport.state = .parked ∧ t.transport.tension = .none ∧
        t.catalog = s.catalog ∧ t.head = s.head

/-- The threaded tape at tension (R54, R55, R63, R182). A data cartridge enters MOUNTING with the mount counters at 0: never written, it
has an empty catalog at once, and the load-count write begins (R51, R56); with catalog valid the load from the band begins (R40);
written without it, REBUILDING and the scan (R41). The head steps to wrap 0, each step making the tach count 63 minus its value (R70). A cleaning cartridge enters CLEANING and streams at step
0; with the 153,600 tach counts of a pass made (2,400 segments), the first pass end reverses it and the second one makes the cleaning
write. -/
def Obligations.TheTapeAtTension : Prop :=
  ∀ (s : State) (r : CmRecord), s.Settled → s.medium.identity.bind Identity.record = some r →
    (s.medium.phase = .winding → r.kind = .data →
      (r.valid = false → r.everWritten = false → s.head.postClean = false → s.memoryFault = false → s.medium.write = none →
        ∃ t, exec .tensionReached s = .next t ∧
          t.medium = { s.medium with
            state := .mounting, phase := .mountWrite, source := .ok
            write := some { purpose := .mountCompletion, second := false
                            record := { r with loadCount := min 65535 (r.loadCount + 1) } } } ∧
          t.catalog = { Catalog.unmounted with session := r.sessionCounter, eod := r.eod, dirty := true } ∧
          t.head = { s.head with
            table := s.head.table.map fun e => { e with failsMount := 0 }
            mount := { s.head.mount with counted := 0, failed := 0 } } ∧
          t.transport.state = .stopped ∧ t.transport.tension = .working ∧ t.transport.relaxTimer = true ∧
          t.transport.pos = { wrap := 0, seg := s.transport.pos.seg,
                              tach := if s.transport.pos.wrap % 2 = 0 then s.transport.pos.tach else 63 - s.transport.pos.tach } ∧
          t.link = s.link ∧ t.att = s.att ∧ t.settings = s.settings ∧ t.engine = s.engine ∧ t.port = s.port ∧
          t.writer = s.writer ∧ t.reader = s.reader ∧ t.gov = s.gov) ∧
      (r.valid = true → s.transport.known = false → ∃ t, exec .tensionReached s = .next t ∧
        t.medium = { s.medium with state := .mounting, phase := .catalogWork } ∧
        t.catalog = { Catalog.unmounted with session := r.sessionCounter, eod := r.eod, work := .load 2 false } ∧
        t.transport.state = .locating ∧ t.transport.motion = .rewind (.stream .load { wrap := 0, seg := 2 }) ∧
        t.link = s.link ∧ t.att = s.att) ∧
      (r.valid = false → r.everWritten = true → s.transport.known = false → ∃ t b, exec .tensionReached s = .next t ∧
        t.medium = { s.medium with state := .rebuilding, phase := .catalogWork } ∧
        t.catalog = { Catalog.unmounted with session := r.sessionCounter, eod := r.eod, work := .rebuild b } ∧
        b.next = { wrap := 0, seg := 16 } ∧ b.last = none ∧
        t.transport.state = .locating ∧ t.transport.motion = .rewind (.stream .rebuild { wrap := 0, seg := 16 }) ∧
        t.link = s.link ∧ t.att = s.att)) ∧
    (s.medium.phase = .winding → r.kind = .cleaning → ∃ t, exec .tensionReached s = .next t ∧
      t.medium = { s.medium with state := .cleaning, phase := .cleanForward, passCounts := 0 } ∧ t.transport.state = .streaming ∧
      t.transport.motion = .stream .cleaning ∧ t.transport.step = 0 ∧ t.transport.tension = .working ∧
      t.link = s.link ∧ t.att = s.att ∧ t.catalog = s.catalog ∧ t.head = s.head) ∧
    (s.medium.phase = .cleanForward → s.medium.passCounts = 153600 →
      exec .cleaningPassEnd s = .next { s with
        medium := { s.medium with phase := .cleanBack, passCounts := 0 }
        transport := { s.transport with against := true } }) ∧
    (s.medium.phase = .cleanBack → s.medium.passCounts = 153600 → s.transport.deferred = none → s.memoryFault = false → s.medium.write = none →
      ∃ t, exec .cleaningPassEnd s = .next t ∧
        t.medium = { s.medium with
          phase := .cleanWrite
          write := some { purpose := .cleaningEnd, second := false, record := { r with passes := r.passes - 1 } } } ∧
        t.transport.state = .stopped ∧ t.transport.motion = .idle ∧ t.link = s.link ∧ t.att = s.att ∧
        t.catalog = s.catalog ∧ t.head = s.head)

/-- The read-back of a cartridge memory write (R50, R51). The first disagreement makes the write once more; the second sets memory fault
and answers a SET ZONE MEDIUM_FAULT with the Zone Table as it was (R52). Agreement replaces the record fields: a SET ZONE is then
stored and answered, and the load-count write enters MOUNTED with Current Block at the beginning, the mount open, and the LOAD
answered with the status of the catalog's source (R56, R182). -/
def Obligations.CartridgeMemoryWriteEnds : Prop :=
  ∀ (s : State) (w : CmWrite) (i : Identity) (readBack : Option (List Byte)), s.Settled → s.medium.write = some w →
    s.medium.identity = some i → s.medium.waiting = [] → s.medium.heldZones = [] →
    let agrees := readBack = some w.record.bytes ∧ CmRecord.parse readBack ≠ none
    (¬agrees → w.second = false →
      exec (.cartridgeMemoryWriteDone readBack) s = .next
        { s with medium := { s.medium with write := some { w with second := true } } }) ∧
    (∀ tag k z, ¬agrees → w.second = true → w.purpose = .setZone tag k z →
      exec (.cartridgeMemoryWriteDone readBack) s = .next { s with
        medium := { s.medium with write := none, identity := some { i with memoryFault := true } }
        link := { s.link with queue := s.link.queue ++ [{ tag := tag, code := .mediumFault, payload := .none }] } }) ∧
    (∀ tag k z, agrees → w.purpose = .setZone tag k z →
      exec (.cartridgeMemoryWriteDone readBack) s = .next { s with
        medium := { s.medium with write := none, identity := some { i with record := some w.record } }
        catalog := { s.catalog with zones := s.catalog.zones.set k z, dirty := true }
        link := { s.link with queue := s.link.queue ++ [{ tag := tag, code := .ok, payload := .zone z }] } }) ∧
    ∀ tag, agrees → w.purpose = .mountCompletion → s.medium.phase = .mountWrite → w.record.kind = .data → s.head.pc < 400 →
      s.medium.source ∈ [Code.ok, .rebuilt, .rebuiltShort] →
      s.link.outstanding = some { op := .load, tag := tag, phase := .working } →
      ∃ t, exec (.cartridgeMemoryWriteDone readBack) s = .next t ∧
        t.medium = { s.medium with
          state := .mounted, phase := .idle, write := none, identity := some { i with record := some w.record } } ∧
        t.link = { s.link with
          outstanding := none
          queue := s.link.queue ++
            [{ tag := tag, code := s.medium.source, payload := .loaded (some { i with record := some w.record }) }] } ∧
        t.att = s.att.raise .mediumChange ∧
        t.catalog = { s.catalog with
          current := 0, positionValid := true
          location := if 0 < s.catalog.blockCount then
              some { stripe := 0, wrap := 0, seg := 16, atZero := true, headerOnly := false } else none } ∧
        t.head.mount.isOpen = true ∧ t.head.mount.serial = w.record.serial ∧
        t.head.mountSeq = min 4294967295 (s.head.mountSeq + 1) ∧ t.head.ci = s.head.ci ∧ t.head.table = s.head.table ∧
        t.transport = s.transport ∧ t.settings = s.settings ∧ t.writer = s.writer

/-! ### The transport -/

/-- The Position Counter (R70) and the tape passed (R86), outside a cleaning run. A count in the recording direction raises the tach
count below 63, one against it lowers it above 0; 64,000 counts of tape bring a kilosegment event. A segment boundary moves the segment
one step, up on an even wrap and down on an odd one, with the tach count 0, or upstream with the tach count 63; the counts up to the
boundary are passed, and a mark seen before it stands for no later boundary (R72). Where a manoeuvre goes to another wrap one head step
follows, the tach count becoming 63 minus its value (that the step comes at a boundary is the model's choice, assumption 19). Nothing
else changes within a segment, nor, in LOCATING and BACKHITCH, at a boundary which a mark preceded, at which no check falls due (R125)
and no stop demanded begins. In THREAD_MOTION a boundary moves the counter and no tape passed is counted (R86). In a turnaround that carries a
stop out it moves the counter, and the counts up to it are passed. A controlled stop demanded of a locate motion begins at its next
boundary, in BACKHITCH with the standby slot empty: the model's choice (assumption 63). -/
def Obligations.CounterMoves : Prop :=
  ∀ (s : State), s.Settled → s.transport.motion ≠ .stream .cleaning →
    let p := s.transport.pos
    (∀ direction reads, s.transport.state ∈ [TransportState.locating, .streaming, .backhitch] →
      let passed : Transport :=
        { s.transport with
          passedTach := (s.transport.passedTach + 1) % 64000
          kilosegments := s.transport.kilosegments + (s.transport.passedTach + 1) / 64000 }
      ((direction = .forward ↔ p.wrap % 2 = 0) → p.tach < 63 →
        exec (.tachCount direction reads) s = .next { s with transport := { passed with
          pos := { p with tach := p.tach + 1 }, against := false } }) ∧
      ((direction = .forward ↔ p.wrap % 2 = 1) → 0 < p.tach →
        exec (.tachCount direction reads) s = .next { s with transport := { passed with
          pos := { p with tach := p.tach - 1 }, against := true } })) ∧
    (∀ upstream reads, s.transport.state ∈ [TransportState.locating, .backhitch] → s.transport.markSeen = true →
      s.transport.missing < 8 → -32 < p.seg → p.seg < 64031 →
      (s.transport.state = .locating → ∀ r, s.transport.stop ≠ .demanded r) →
      let q : Pos := { wrap := p.wrap, seg := p.seg + (if upstream = (p.wrap % 2 == 0) then -1 else 1),
                       tach := if upstream then 63 else 0 }
      (upstream = false → s.transport.state = .backhitch →
        ∀ f ∈ s.tape.flights, ordinal f.addr + 3 ≠ ordinal { wrap := q.wrap, seg := q.seg }) →
      let n := if upstream then p.tach + 1 else 64 - p.tach
      let passed : Transport :=
        { s.transport with
          markSeen := false
          passedTach := (s.transport.passedTach + n) % 64000
          kilosegments := s.transport.kilosegments + (s.transport.passedTach + n) / 64000 }
      ((∀ w, s.headTarget = some w → w = p.wrap) →
        exec (.segmentBoundary upstream reads) s = .next { s with transport := { passed with
          pos := q, against := upstream } }) ∧
      (∀ w, s.headTarget = some w → w ≠ p.wrap →
        exec (.segmentBoundary upstream reads) s = .next { s with transport := { passed with
          pos := { wrap := if p.wrap < w then p.wrap + 1 else p.wrap - 1, seg := q.seg, tach := 63 - q.tach }
          against := !upstream } })) ∧
    (∀ upstream reads, s.transport.state = .locating → s.transport.stop = .demanded none → s.transport.markSeen = true →
      s.transport.missing < 8 → -32 < p.seg → p.seg < 64031 →
      ∃ t, exec (.segmentBoundary upstream reads) s = .next t ∧
        t.transport.pos = { wrap := p.wrap, seg := p.seg + (if upstream = (p.wrap % 2 == 0) then -1 else 1),
                            tach := if upstream then 63 else 0 } ∧
        t.transport.state = .backhitch ∧ t.transport.stop = .controlled none ∧ t.transport.active = some .pass ∧
        t.transport.standby = none ∧ t.transport.motion = s.transport.motion ∧ t.transport.deferred = s.transport.deferred ∧
        t.transport.known = s.transport.known ∧ t.link = s.link ∧ t.att = s.att ∧ t.settings = s.settings ∧
        t.medium = s.medium ∧ t.tape = s.tape ∧ t.engine = s.engine ∧ t.port = s.port ∧ t.writer = s.writer ∧
        t.catalog = s.catalog ∧ t.gov = s.gov ∧ t.head = s.head) ∧
    (∀ upstream reads, -32 < p.seg → p.seg < 64031 →
      let moved : Transport :=
        { s.transport with
          pos := { wrap := p.wrap, seg := p.seg + (if upstream = (p.wrap % 2 == 0) then -1 else 1),
                   tach := if upstream then 63 else 0 }
          against := upstream, markSeen := false }
      let n := if upstream then p.tach + 1 else 64 - p.tach
      (s.transport.state = .threadMotion → exec (.segmentBoundary upstream reads) s = .next { s with transport := moved }) ∧
      (∀ r, s.transport.state = .turnaround → s.transport.stop = .controlled r →
        exec (.segmentBoundary upstream reads) s = .next { s with transport := { moved with
          passedTach := (s.transport.passedTach + n) % 64000
          kilosegments := s.transport.kilosegments + (s.transport.passedTach + n) / 64000 } })) ∧
    ∀ reads, s.transport.state = .streaming → -32 < p.seg → p.seg < 64031 →
      ∃ t, exec (.segmentBoundary false reads) s = .next t ∧
        t.transport.pos = { wrap := p.wrap, seg := p.seg + (if p.wrap % 2 = 0 then 1 else -1), tach := 0 } ∧
        t.settings = s.settings ∧ t.gov.step = s.gov.step

/-- A captured servo mark in LOCATING, BACKHITCH, an owner's stream or the immediate stop of a re-acquisition (R71): a counter at most 4 counts off stays as it is; one further off
is set to the mark, its segment at tach 0, or when the tape moves against the recording direction the segment upstream at tach 63, and
the slip count rises by one up to 65,535. Every capture clears the missing-mark count. A correction forward hands the boundaries it
passes each once and in order: a write stream reports the segment that each of them ends (R124), and in BACKHITCH, and in
LOCATING with no stop demanded, they change nothing more. One back in a stream leaves the plan active, and the boundaries that it carries the
counter over are not handed again: that they are not when they are passed again is the model's reading (assumption 74). That outside a
stream a correction against the recording direction hands no boundary, on whichever side of the counter the mark lies, is the model's
choice (assumption 43). The first mark of a re-acquisition sets counter and position known (R77), and the motion
asked for begins: that it begins at once, by a locate motion, is the model's reading (assumption 28). That a mark in a rewind by reel
count is disregarded is the model's choice (assumption 57). -/
def Obligations.ServoMarks : Prop :=
  ∀ (s : State) (seg : Nat) (reads : List BoundaryReads), s.Settled → seg < 64000 →
    let p := s.transport.pos
    let d : Int := (p.seg - seg) * (if p.wrap % 2 = 0 then 1 else -1) * 64 + p.tach
    let slipped := min 65535 (s.transport.slips + 1)
    let ahead := (seg - p.seg) * (if p.wrap % 2 = 0 then 1 else -1)
    let k := ahead.toNat
    (((s.transport.state = .locating ∧ (∀ r, s.transport.motion ≠ .rewind r)) ∨ s.transport.state = .backhitch ∨
        (s.transport.state = .streaming ∧ ∃ o, o ≠ Owner.cleaning ∧ s.transport.motion = .stream o) ∨
        (s.transport.state = .streaming ∧ s.transport.stop = .immediate ∧ ∃ r, s.transport.motion = .reacquire r)) →
      (d.natAbs ≤ 4 → exec (.servoMarkCapture seg reads) s = .next { s with transport := { s.transport with
        missing := 0, markSeen := true } }) ∧
      (4 < d.natAbs → s.transport.against = true → (s.transport.state = .streaming → ahead ≤ 1) →
        exec (.servoMarkCapture seg reads) s = .next { s with transport := { s.transport with
          missing := 0, markSeen := true, slips := slipped
          pos := { wrap := p.wrap, seg := seg + (if p.wrap % 2 = 0 then -1 else 1), tach := 63 }
          unhanded := s.transport.unhanded + if s.transport.state = .streaming then (1 - ahead).toNat else 0 } }) ∧
      (4 < d → p.tach < 64 → s.transport.against = false →
        exec (.servoMarkCapture seg reads) s = .next { s with transport := { s.transport with
          missing := 0, markSeen := true, slips := slipped, pos := { wrap := p.wrap, seg := seg, tach := 0 }
          unhanded := s.transport.unhanded + if s.transport.state = .streaming then (-ahead).toNat else 0 } }) ∧
      (d < -4 → s.transport.state ≠ .streaming → s.tape.flights = [] → s.transport.against = false →
        (s.transport.state = .locating → ∀ r, s.transport.stop ≠ .demanded r) →
        exec (.servoMarkCapture seg reads) s = .next { s with transport := { s.transport with
          missing := 0, markSeen := true, slips := slipped, pos := { wrap := p.wrap, seg := seg, tach := 0 } } })) ∧
    (∀ n, d < -4 → s.transport.against = false → s.transport.state = .streaming → s.transport.motion = .stream .write →
      s.transport.stop = .none → s.transport.startAt = none → s.transport.unhanded = 0 → s.transport.active = some .gap →
      s.transport.standby = none →
      s.transport.pendingStep = none → s.transport.step = s.gov.step → inDataArea p.seg = true → p.wrap ≤ 63 →
      s.tape.flights = [] → s.tape.writing = none → s.writer.session = some n →
      s.writer.state ∈ [WriteState.accepting, .behind] → s.writer.fault = none → deadCount s.head.table < 2 →
      (∀ j, (s.slot j).state = .ready → (s.slot j).planned = true) →
      (s.queue.slots.any fun x => x.state == .ready || x.state == .inFlight) = true →
      ∃ t, exec (.servoMarkCapture seg reads) s = .next t ∧ 1 ≤ k ∧
        t.transport.pos = { wrap := p.wrap, seg := seg, tach := 0 } ∧ t.transport.slips = slipped ∧ t.transport.missing = 0 ∧
        t.transport.state = .streaming ∧ t.transport.stop = .none ∧ t.transport.active = some .gap ∧
        t.catalog = { s.catalog with
          reports := (List.range k).foldl
            (fun rs (m : Nat) => addReport rs
              { addr := { wrap := p.wrap, seg := p.seg + m * (if p.wrap % 2 = 0 then 1 else -1) }, copy := none })
            s.catalog.reports } ∧
        t.link = s.link ∧ t.att = s.att ∧ t.settings = s.settings ∧ t.medium = s.medium ∧ t.queue = s.queue ∧
        t.engine = s.engine ∧ t.port = s.port ∧ t.writer = s.writer ∧ t.reader = s.reader ∧ t.head = s.head) ∧
    (∀ (o : Owner) (r : BoundaryReads), s.transport.state = .streaming → s.transport.motion = .stream o → o ≠ .cleaning →
      (s.transport.stop = .none ∨ ∃ x, s.transport.stop = .demanded x) → 0 < s.transport.unhanded →
      s.transport.markSeen = true → s.transport.missing < 8 → -32 < p.seg → p.seg < 64031 →
      exec (.segmentBoundary false r) s = .next { s with transport := { s.transport with
        pos := { wrap := p.wrap, seg := p.seg + (if p.wrap % 2 = 0 then 1 else -1), tach := 0 }
        against := false, markSeen := false, unhanded := s.transport.unhanded - 1
        passedTach := (s.transport.passedTach + (64 - p.tach)) % 64000
        kilosegments := s.transport.kilosegments + (s.transport.passedTach + (64 - p.tach)) / 64000 } }) ∧
    (∀ r, s.transport.state = .locating → s.transport.motion = .rewind r → exec (.servoMarkCapture seg reads) s = .next s) ∧
    ∀ a, s.transport.state = .streaming → s.transport.motion = .reacquire (.locateEnd a) → s.transport.stop = .none →
      s.transport.deferred = none →
      ∃ t, exec (.servoMarkCapture seg reads) s = .next t ∧
        t.transport.pos = { wrap := p.wrap, seg := seg, tach := 0 } ∧ t.transport.known = true ∧ t.transport.missing = 0 ∧
        t.transport.state = .locating ∧ t.transport.motion = .travel (.locateEnd a) ∧
        t.link = s.link ∧ t.att = s.att ∧ t.settings = s.settings ∧ t.medium = s.medium ∧ t.catalog = s.catalog ∧
        t.writer = s.writer ∧ t.reader = s.reader ∧ t.head = s.head

/-- Motion faults during a LOCATE's own motion. POSITION_LOST and a failed re-acquisition: position known is cleared, the gate falls, both
plans are emptied, the tape comes to rest (R72, R77); MOTOR_STALL: RELAXED at hold tension with the synthesizer OFF (R69). The
LOCATE ends with the fault's status, position-valid cleared and the location absent (R37). In THREAD_MOTION a stall during the
captures brings the unthread with THREAD_FAULT; R54 names a stall while winding only, and the captures are the model's choice
(assumption 17). That REACQUISITION_FAILED is handled as a loss of position is the model's choice (assumption 28). -/
def Obligations.MotionFaults : Prop :=
  ∀ (s : State) (w : Byte) (x : LocateTarget) (a : SegAddr), s.Settled → s.transport.deferred = none →
    s.transport.stop = .none →
    let answered (code : Code) : Link := { s.link with
      outstanding := none, queue := s.link.queue ++ [{ tag := w, code := code, payload := .none }] }
    (∀ c, s.link.outstanding = some { op := .locate x, tag := w, phase := .working } → s.medium.state = .mounted →
      (c = .positionLost ∧ s.transport.known = true ∧ s.transport.state = .locating ∧
          s.transport.motion = .travel (.locateEnd a) ∨
       c = .reacquisitionFailed ∧ s.transport.state = .streaming ∧ s.transport.motion = .reacquire (.locateEnd a)) →
      ∃ t, exec c s = .next t ∧ t.link = answered .positionLost ∧
        t.catalog = { s.catalog with positionValid := false, location := none } ∧
        t.transport.known = false ∧ t.transport.missing = 0 ∧ t.transport.stop = .immediate ∧ t.transport.active = none ∧
        t.transport.standby = none ∧ t.transport.state = s.transport.state ∧ t.transport.pos = s.transport.pos ∧
        t.tape.gate = false ∧ t.tape.flights = [] ∧ t.settings = s.settings ∧ t.att = s.att ∧ t.medium = s.medium ∧
        t.engine = s.engine ∧ t.port = s.port ∧ t.writer = s.writer ∧ t.reader = s.reader ∧ t.head = s.head) ∧
    (s.link.outstanding = some { op := .locate x, tag := w, phase := .working } → s.medium.state = .mounted →
      s.transport.state = .locating → s.transport.motion = .travel (.locateEnd a) →
      ∃ t, exec .motorStall s = .next t ∧ t.link = answered .motorStall ∧
        t.catalog = { s.catalog with positionValid := false, location := none } ∧
        t.transport.state = .relaxed ∧ t.transport.tension = .hold ∧ t.transport.synth = .off ∧ t.transport.motion = .idle ∧
        t.transport.stop = .none ∧ t.transport.active = none ∧ t.transport.standby = none ∧
        t.transport.known = s.transport.known ∧ t.transport.pos = s.transport.pos ∧ t.tape.gate = false ∧
        t.settings = s.settings ∧ t.att = s.att ∧ t.medium = s.medium ∧ t.engine = s.engine ∧ t.port = s.port ∧
        t.writer = s.writer ∧ t.reader = s.reader ∧ t.head = s.head) ∧
    ∀ k, s.medium.phase = .capturing k → s.transport.state = .threadMotion → ∃ t, exec .motorStall s = .next t ∧
      t.medium = { s.medium with
        state := .unthreading, phase := (if s.medium.leader then .windingBack else .returning)
        after := some { eject := false, code := some .threadFault, retry := false } } ∧
      t.transport.state = .threadMotion ∧ t.link = s.link ∧ t.catalog = s.catalog ∧ t.head = s.head

/-- Tension and the rewind by reel count. RETENSION_COMPLETE in RELAXED passes to STOPPED, and the motion asked for begins (R84);
RELAX_TIMEOUT brings RELAXED at hold tension with the synthesizer OFF, the counter, position known and the step kept, and with a
relax timeout of 0 changes nothing (R84; assumption 1); the duties driven are at most 1,000 (R68). The rewind's end sets the counter to wrap 0,
segment -32, tach 0, and the re-acquisition streams at step 0, or the unmount goes on to its unthread and eject (R61, R77). That it stays
at rest there when a controlled stop has been demanded meanwhile is the model's choice (assumption 63), and that the synthesizer is left
as it was is another (assumption 56). -/
def Obligations.TensionAndRewind : Prop :=
  ∀ s : State, s.Settled →
    (∀ a, s.transport.state = .relaxed → s.transport.tension = .working → s.transport.motion = .retension (.locateEnd a) →
      s.transport.known = true →
      ∃ t, exec .retensionComplete s = .next t ∧ t.transport.state = .locating ∧ t.transport.tension = .working ∧
        t.transport.motion = .travel (.locateEnd a) ∧ t.transport.relaxTimer = false ∧ t.transport.pos = s.transport.pos ∧
        t.link = s.link ∧ t.att = s.att ∧ t.settings = s.settings ∧ t.medium = s.medium ∧ t.catalog = s.catalog ∧
        t.writer = s.writer ∧ t.reader = s.reader ∧ t.head = s.head) ∧
    (s.transport.state = .stopped → s.transport.relaxTimer = true → s.settings.relaxTimeout ≠ 0 →
      ∃ t, exec .relaxTimeout s = .next t ∧ t.transport.state = .relaxed ∧ t.transport.tension = .hold ∧
        t.transport.synth = .off ∧ t.transport.relaxTimer = false ∧ t.transport.known = s.transport.known ∧
        t.transport.pos = s.transport.pos ∧ t.transport.step = s.transport.step ∧
        t.transport.standby = s.transport.standby ∧ t.transport.motion = s.transport.motion ∧
        t.transport.dutyS ≤ 1000 ∧ t.transport.dutyT ≤ 1000 ∧
        t.link = s.link ∧ t.att = s.att ∧ t.settings = s.settings ∧ t.medium = s.medium ∧ t.tape = s.tape ∧
        t.queue = s.queue ∧ t.engine = s.engine ∧ t.port = s.port ∧ t.writer = s.writer ∧ t.reader = s.reader ∧
        t.catalog = s.catalog ∧ t.gov = s.gov ∧ t.head = s.head) ∧
    (s.settings.relaxTimeout = 0 → exec .relaxTimeout s = .next s) ∧
    (∀ req, s.transport.motion = .rewind req → req ≠ .reelRewind → s.transport.stop = .none →
      ∃ t, exec .reelCountRewindDone s = .next t ∧ t.transport.pos = { wrap := 0, seg := -32, tach := 0 } ∧
        t.transport.state = .streaming ∧ t.transport.motion = .reacquire req ∧ t.transport.step = 0 ∧
        t.transport.against = false ∧ t.transport.active = some .pass ∧ t.transport.known = s.transport.known ∧
        t.transport.synth = s.transport.synth ∧ t.transport.lockedStep = s.transport.lockedStep ∧
        t.link = s.link ∧ t.att = s.att ∧ t.settings = s.settings ∧ t.medium = s.medium ∧ t.tape = s.tape ∧
        t.queue = s.queue ∧ t.writer = s.writer ∧ t.reader = s.reader ∧ t.catalog = s.catalog ∧ t.head = s.head) ∧
    (∀ req r, s.transport.motion = .rewind req → req ≠ .reelRewind → s.transport.stop = .demanded r →
      s.transport.deferred = none →
      ∃ t, exec .reelCountRewindDone s = .next t ∧ t.transport.pos = { wrap := 0, seg := -32, tach := 0 } ∧
        t.transport.state = .stopped ∧ t.transport.motion = .idle ∧ t.transport.stop = .none ∧
        t.transport.known = s.transport.known ∧ t.transport.synth = s.transport.synth ∧ t.settings = s.settings ∧
        t.link = s.link ∧ t.medium = s.medium ∧ t.catalog = s.catalog ∧ t.writer = s.writer ∧ t.reader = s.reader ∧
        t.head = s.head) ∧
    ∀ u, s.transport.motion = .rewind .reelRewind → s.transport.stop = .none → s.transport.deferred = none →
      s.medium.unmount = some u →
      ∃ t, exec .reelCountRewindDone s = .next t ∧ t.transport.pos = { wrap := 0, seg := -32, tach := 0 } ∧
        t.transport.state = .threadMotion ∧ t.medium.state = .unthreading ∧
        t.medium.after = some { eject := true, code := some u.status, retry := false } ∧ t.link = s.link ∧
        t.catalog = s.catalog ∧ t.head = s.head

/-- Motions that come to rest with no request waiting. A LOCATE's motion ends STOPPED at the ready point, which is the model's
choice (assumption 35): R79 names the place only for a motion to a stream. It sets Current Block (R18, R37): the end of data
with OK, a block beyond it with END_OF_DATA, the beginning with OK. A motion to a
stream's ready point ends in the stream, two run-up segments ahead of its first (R78). A controlled stop rests at the ready
point of its resume segment, or where it is (R80). A save of the catalog whose stream stops so is saved when a copy has passed its
check, and the unmount's write follows it (R39, R60); that it is over, and that write begun, at this rest at the latest, the checks
still outstanding dropped, is the model's choice (assumption 27), R39 and R60 naming neither the instant nor the drop. An immediate
stop rests where it is (R83); a stream that ended after wrap 63
where it is, the searches of a read stream the same stripes' as before, and a write stream with only READY stripes left ends
its session with END_OF_MEDIUM, held as a Deferred Error (R82, R129 to R132, R137). -/
def Obligations.MotionsComeToRest : Prop :=
  ∀ s : State, s.Settled → s.transport.deferred = none →
    let rests (t : State) (pos : Pos) : Prop :=
      t.transport.state = .stopped ∧ t.transport.motion = .idle ∧ t.transport.stop = .none ∧ t.transport.pos = pos ∧
        t.transport.tension = .working ∧ t.transport.relaxTimer = true ∧ t.settings = s.settings
    (∀ a w x, s.transport.state = .locating → s.transport.motion = .travel (.locateEnd a) → s.transport.stop = .none →
      s.link.outstanding = some { op := .locate x, tag := w, phase := .working } →
      let located (c : Catalog) (code : Code) : Prop := ∃ t, exec .locateMotionDone s = .next t ∧ rests t (readyPoint a) ∧
        t.catalog = c ∧ t.link = { s.link with
          outstanding := none, queue := s.link.queue ++ [{ tag := w, code := code, payload := .none }] } ∧
        t.att = s.att ∧ t.medium = s.medium ∧ t.writer = s.writer ∧ t.reader = s.reader ∧ t.head = s.head
      let atEnd : Catalog := { s.catalog with current := s.catalog.blockCount, positionValid := true, location := none }
      (x = .endOfData → located atEnd .ok) ∧
      (∀ b, x = .block b → s.catalog.blockCount ≤ b → located atEnd .endOfData) ∧
      (x = .beginning → located { s.catalog with
        current := 0, positionValid := true
        location := if 0 < s.catalog.blockCount then
            some { stripe := 0, wrap := 0, seg := 16, atZero := true, headerOnly := false } else none } .ok)) ∧
    (∀ o a, s.transport.state = .locating → s.transport.motion = .travel (.stream o a) → s.transport.stop = .none →
      s.transport.known = true → s.wantsStream o = true →
      ∃ t, exec .locateMotionDone s = .next t ∧ t.transport.state = .streaming ∧ t.transport.motion = .stream o ∧
        t.transport.pos = readyPoint a ∧ t.transport.runUp = 2 ∧ t.transport.startAt = some a ∧
        t.transport.active = some .pass ∧ t.link = s.link ∧ t.catalog = s.catalog ∧ t.medium = s.medium ∧ t.writer = s.writer ∧ t.reader = s.reader ∧
        t.head = s.head) ∧
    (∀ k d u r, s.transport.state = .backhitch → s.transport.stop = .controlled none → s.transport.motion = .stream .save →
      s.catalog.work = .save k d → s.medium.unmount = some u → s.medium.write = none → s.memoryFault = false →
      s.medium.identity.bind Identity.record = some r →
      ∃ t x, exec .controlledStopRest s = .next t ∧ rests t s.transport.pos ∧ t.tape.flights = [] ∧
        t.catalog = { s.catalog with work := .idle } ∧ t.medium.phase = .unmountWrite ∧
        t.medium.unmount = some { u with
          save := some (if d = some true then .saved else .notSaved), saveNeeded := !(d == some true) } ∧
        t.medium.write = some x ∧ x.purpose = .unmount ∧ x.record.valid = (d == some true) ∧
        t.link = s.link ∧ t.writer = s.writer ∧ t.reader = s.reader ∧ t.head = s.head) ∧
    (∀ resume, s.transport.state = .backhitch → s.transport.stop = .controlled resume →
      (s.transport.motion = .stream .save → ∀ k d, s.catalog.work ≠ .save k d) →
      ∃ t, exec .controlledStopRest s = .next t ∧ rests t ((resume.map readyPoint).getD s.transport.pos) ∧
        t.link = s.link ∧ t.catalog = s.catalog ∧ t.medium = s.medium ∧ t.writer = s.writer ∧ t.reader = s.reader ∧
        t.head = s.head) ∧
    (s.transport.state.moving = true → s.transport.stop = .immediate →
      ∃ t, exec .immediateStopRest s = .next t ∧ rests t s.transport.pos ∧ t.tape.flights = [] ∧
        t.link = s.link ∧ t.catalog = s.catalog ∧ t.medium = s.medium ∧ t.writer = s.writer ∧ t.reader = s.reader ∧
        t.head = s.head) ∧
    (s.transport.motion = .stream .read → s.transport.stop = .endOfArea → s.tape.flights = [] →
      ∃ t, exec (.endOfDataAreaRest []) s = .next t ∧ rests t s.transport.pos ∧
        t.link = s.link ∧ t.catalog = s.catalog ∧ t.medium = s.medium ∧ t.writer = s.writer ∧
        t.reader = { s.reader with halted := t.reader.halted, searches := t.reader.searches } ∧
        t.reader.searches.map Search.stripe = s.reader.searches.map Search.stripe ∧ t.head = s.head) ∧
    ∀ n, s.transport.state = .streaming → s.transport.motion = .stream .write → s.transport.stop = .endOfArea →
      s.tape.flights = [] → s.link.outstanding = none → s.writer.state = .behind → s.sessionOpen = true →
      s.writer.fault = none → s.lowest Slot.isReady = some n →
      (s.lowest fun t => t.isReady || (t.state == .filling)) = some n →
      (∀ slot ∈ s.queue.slots, slot.isWrite = true → ∃ m, slot.stripe = some m ∧ n ≤ m) →
      ∃ t, exec (.endOfDataAreaRest []) s = .next t ∧ rests t s.transport.pos ∧ t.link = s.link ∧
        t.writer.session = none ∧ t.writer.state = .idle ∧
        t.writer.deferred = some { code := .endOfMedium, firstLost := s.catalog.blockCount,
                                   lost := s.catalog.current - s.catalog.blockCount, further := 0 } ∧
        t.att = s.att.raise .deferredError ∧ t.catalog.current = s.catalog.blockCount ∧
        t.catalog.extents = s.catalog.extents ∧ (∀ slot ∈ t.queue.slots, slot.isWrite = false)

/-! ### The Head Monitor and the Speed Governor -/

/-- The Head Monitor's counts. An event that the tape passed has brought raises the meter by one up to 65,535, whatever the state, at
KILOSEGMENT_EVENT (R86, R184); the 512th set of results
in a row with no failure lowers CI by an eighth and returns the run to 0 (R180); a PC of 400 or more in an open mount is committed
to CI when the spread set has four elements or more or the last attribution is HEAD, else to the medium record of the mount
(R181). After each the Cleaning Call level is evaluated, and a rise raises CLEANING_CALL (R185). -/
def Obligations.HeadCounts : Prop :=
  ∀ s : State,
    let h := s.head
    let called (a : Attention) (level : CleaningLevel) : Attention :=
      if h.level.rank < level.rank then a.raise .cleaningCall else a
    let level (ci meter : Nat) : CleaningLevel :=
      if s.settings.cleanThreshold ≤ ci then .required
      else if s.settings.cleanThreshold - 150 ≤ ci ∨ s.settings.cleanInterval ≤ meter then .advised
      else .none
    (0 < s.transport.kilosegments →
     let m := min 65535 (h.meter + 1)
     exec .kilosegmentEvent s = .next { s with
       transport := { s.transport with kilosegments := s.transport.kilosegments - 1 }
       head := { h with meter := m, level := level h.ci m }, att := called s.att (level h.ci m) }) ∧
    (511 ≤ h.decayRun →
      let ci := h.ci - h.ci / 8
      exec .decayRunExpiry s = .next { s with
        head := { h with ci := ci, decayRun := 0, level := level ci h.meter }, att := called s.att (level ci h.meter) }) ∧
    (h.mount.isOpen = true → 400 ≤ h.pc → (4 ≤ h.spread.length ∨ h.last = .head) →
      let ci := min 1000 (h.ci + h.pc)
      exec .pcCommit s = .next { s with
        head := { h with
          ci := ci, pc := 0, spread := [], last := .head, level := level ci h.meter
          records := h.records.modify h.mount.index fun r => { r with attribution := .head } }
        att := called s.att (level ci h.meter) }) ∧
    ∀ r, h.mount.isOpen = true → 400 ≤ h.pc → h.spread.length < 4 → h.last ≠ .head →
      h.records[h.mount.index]? = some r →
      let suspect := min 15 (r.suspect + 1)
      exec .pcCommit s = .next { s with
        head := { h with
          pc := 0, spread := [], last := .medium, level := level h.ci h.meter
          records := h.records.set h.mount.index
            { r with charge := min 65535 (r.charge + h.pc), suspect := suspect, attribution := .medium } }
        att := called (if 2 ≤ suspect then s.att.raise .mediumSuspect else s.att) (level h.ci h.meter) }

/-- FOLLOW (R174): each set of results takes the amplitude of every scanned element, DEAD ones among them, to floor((7 × old + sample) /
8), recomputes its margin and evaluates its status, the noise kept; UNSCANNED elements, and all of them while FOLLOW is off, stay.
FOLLOW is off by default, and no CONFIGURE changes an amplitude. One sample moves an amplitude by at most 32; a sample of 0 takes
200 to 175, eight of them to 67; a DEAD element whose margin comes back to the dead threshold is DEAD no more. -/
def Obligations.FollowMode : Prop :=
  (∀ (s : State) (fails : List Bool) (levels : List Nat) (i : Nat) (e : Element), s.head.table[i]? = some e →
    ∃ x, (s.headResults fails levels).head.table[i]? = some x ∧ x.noise = e.noise ∧
      (s.settings.follow = true ∧ e.status ≠ .unscanned →
        x.amplitude = (7 * e.amplitude + levels.getD i 0) / 8 ∧ x.margin = x.amplitude - e.noise ∧
        x.status = (if s.settings.weakThreshold ≤ x.margin then .good
          else if s.settings.deadThreshold ≤ x.margin then .weak else .dead)) ∧
      (s.settings.follow = false ∨ e.status = .unscanned →
        x.amplitude = e.amplitude ∧ x.margin = e.margin ∧ x.status = e.status)) ∧
  State.reset.settings.follow = false ∧
  (∀ (s t : State) (tag : Byte) (pairs : List (Byte × Word32)), exec (.configure tag pairs) s = .next t →
    t.head.table.map Element.amplitude = s.head.table.map Element.amplitude) ∧
  (∀ old sample : Nat, old ≤ 255 → sample ≤ 255 →
    (7 * old + sample) / 8 ≤ old + 32 ∧ old ≤ (7 * old + sample) / 8 + 32) ∧
  (∀ (v : Settings) (e : Element), e.status ≠ .unscanned → e.amplitude = 200 →
    (e.follow v 0).amplitude = 175 ∧
    (((((((((e.follow v 0).follow v 0).follow v 0).follow v 0).follow v 0).follow v 0).follow v 0).follow v 0).amplitude = 67)) ∧
  ∀ (v : Settings) (e : Element) (sample : Nat), e.status = .dead →
    v.deadThreshold ≤ (7 * e.amplitude + sample) / 8 - e.noise → (e.follow v sample).status ≠ .dead

/-- The scanner's windows (R176). The signal window's level is kept; the noise window's end stores both in the element's entry, evaluates
its status, raising HEAD_CONDITION on a change to DEAD (R171), and goes on to the next element while a window pair fits into the
pass. After the eighteenth element SCAN_DONE is raised, the stream of a SCAN HEAD is brought to a controlled stop, and its OK
waits for rest (R177). -/
def Obligations.ScanWindows : Prop :=
  ∀ (s : State) (c : Scan) (level : Byte), s.Settled → s.head.scan = some c → c.measuring = true → c.ending = none →
    (c.signal = none → exec (.scanWindowEnd level) s = .next
      { s with head := { s.head with scan := some { c with signal := some level.toNat } } }) ∧
    ∀ a e, c.signal = some a → s.head.table[c.element]? = some e →
      let margin := a - level.toNat
      let e' : Element := { e with
        amplitude := a, noise := level.toNat, margin := margin
        status := if s.settings.weakThreshold ≤ margin then .good
          else if s.settings.deadThreshold ≤ margin then .weak else .dead }
      let pair := (c.a + 1 + (c.b + 1)) * 16
      let att := if e.status ≠ .dead ∧ e'.status = .dead then s.att.raise .headCondition else s.att
      (c.done + 1 < 18 → ∃ t d, exec (.scanWindowEnd level) s = .next t ∧
        t.head = { s.head with table := s.head.table.set c.element e', scan := some d } ∧ d.done = c.done + 1 ∧
        d.element = (c.element + 1) % 18 ∧ d.elapsed = c.elapsed + pair ∧ d.signal = none ∧
        d.measuring = decide (c.elapsed + pair + pair ≤ 16666) ∧ d.ending = none ∧ d.a = c.a ∧ d.b = c.b ∧ t.att = att ∧
        t.link = s.link ∧ t.settings = s.settings ∧ t.medium = s.medium ∧ t.transport = s.transport ∧ t.tape = s.tape ∧
        t.queue = s.queue ∧ t.engine = s.engine ∧ t.port = s.port ∧ t.writer = s.writer ∧ t.reader = s.reader ∧
        t.catalog = s.catalog ∧ t.gov = s.gov) ∧
      (c.done = 17 → c.postClean = false → s.transport.state = .streaming → s.transport.stop = .none →
        ∃ t d, exec (.scanWindowEnd level) s = .next t ∧ t.head.scan = some d ∧ d.ending = some .ok ∧ d.done = 18 ∧
          t.head.table = s.head.table.set c.element e' ∧ t.att = att.raise .scanDone ∧
          t.transport.stop = .demanded none ∧ t.link = s.link ∧ t.catalog = s.catalog ∧ t.medium = s.medium)

/-- The end of a governor window (R116, R157 to R160): the meter's counts become the report and start again from 0; the stored bytes S
give the demand P = ceil(S / 65,536), D = P + ceil(P / 8) and a target by R157's table of P, clamped to the configured range. A
target above the current step is taken at once; one below it lowers the step by one after three windows, or at once under the
quick-fall mark, which stays set only below it. -/
def Obligations.GovernorWindowEnds : Prop :=
  ∀ s : State,
    let m := s.engine.meter
    let stored := min 4294967295 (m.placed + m.taken)
    let p := (stored + 65535) / 65536
    let d := p + (p + 7) / 8
    let raw := if p ≤ 106 then 0 else if p ≤ 149 then 1 else if p ≤ 192 then 2 else if p ≤ 234 then 3
      else if p ≤ 277 then 4 else 5
    let target := clamp s.settings.minStep s.settings.maxStep raw
    let g := s.gov
    ∃ t, exec .governorWindowEnd s = .next t ∧
      t.engine = { s.engine with meter := { rawAccepted := 0, placed := 0, taken := 0 }, report := m } ∧
      t.gov.last = { s := stored, p := p, d := d, target := target } ∧
      (g.step < target → t.gov.step = target ∧ t.gov.down = 0) ∧
      (g.step = target → t.gov.step = g.step ∧ t.gov.down = 0) ∧
      (target < g.step → g.quick = true → t.gov.step = g.step - 1 ∧ t.gov.down = 0) ∧
      (target < g.step → g.quick = false → g.down < 2 → t.gov.step = g.step ∧ t.gov.down = g.down + 1) ∧
      (target < g.step → g.quick = false → 2 ≤ g.down → t.gov.step = g.step - 1 ∧ t.gov.down = 0) ∧
      t.gov.quick = (g.quick && decide (target < g.step)) ∧
      t.link = s.link ∧ t.att = s.att ∧ t.settings = s.settings ∧ t.medium = s.medium ∧ t.tape = s.tape ∧
      t.queue = s.queue ∧ t.port = s.port ∧ t.writer = s.writer ∧ t.reader = s.reader ∧ t.catalog = s.catalog ∧
      t.head = s.head ∧ t.transport.pos = s.transport.pos

/-! ### The write path -/

/-- The Data Port inward (R97, R104, R105). A length word in its range is taken, its data words to come being a quarter of its bytes
rounded up, none for a marker; one out of range ends the request with BAD_BLOCK_LENGTH, when no block admitted before it is in
hand. A data word enters the INTAKE ring most significant byte first, as far as the block's bytes go. With DP_READY low no word
passes (R97; that the state then stays is the model's, assumption 1), nor with DP_DIR opposite to the outstanding request (R104): that
DP_DIR shows the in direction with either command is the model's choice (assumption 9). -/
def Obligations.WordsIn : Prop :=
  ∀ (word : Word32) (s : State),
    (∀ o w n, s.link.outstanding = some { op := o, tag := w, phase := .working } →
      (o = .writeBlocks n ∨ o = .writeMarkers n) → s.writer.state = .accepting → s.writer.refusal = none →
      s.port.phase = .length → s.port.lengthWord = none → s.port.taken < s.writer.requested →
      (o = .writeBlocks n → 1 ≤ word.toNat → word.toNat ≤ 262144 →
        exec (.lengthWordIn word) s = .next { s with port := { s.port with
          phase := .data, lengthWord := some word.toNat, remaining := (word.toNat + 3) / 4, bytesLeft := word.toNat
          taken := s.port.taken + 1 } }) ∧
      (o = .writeMarkers n → word = 0 →
        exec (.lengthWordIn word) s = .next { s with port := { s.port with
          lengthWord := some 0, remaining := 0, bytesLeft := 0, taken := s.port.taken + 1 } }) ∧
      (s.engine.block = none →
        (o = .writeBlocks n ∧ (word.toNat = 0 ∨ 262144 < word.toNat) ∨ o = .writeMarkers n ∧ word ≠ 0) →
        ∃ t, exec (.lengthWordIn word) s = .next t ∧
          t.link = { s.link with
            outstanding := none
            queue := s.link.queue ++ [{ tag := w, code := .badBlockLength
                                        payload := .written s.writer.accepted s.catalog.current s.catalog.blockCount none }] } ∧
          t.port = { Port.idle with wordOut := s.port.wordOut } ∧ t.engine.ring = [] ∧ t.engine.block = none ∧
          t.writer.requested = 0 ∧ t.writer.state = (if s.sessionOpen then .behind else .idle) ∧
          t.catalog = s.catalog ∧ t.queue = s.queue ∧ t.medium = s.medium ∧ t.transport = s.transport ∧ t.head = s.head ∧
          t.att = s.att ∧ t.settings = s.settings)) ∧
    (requestDirection s = some .inward → s.writer.state = .accepting → 0 < s.writer.requested → s.writer.refusal = none →
      s.port.phase = .data → stagesHeld s.queue.slots = true → s.engine.ring.length + min 4 s.port.bytesLeft ≤ 262144 →
      s.engine.block = none →
      let four : List Byte :=
        [(word >>> 24).setWidth 8, (word >>> 16).setWidth 8, (word >>> 8).setWidth 8, word.setWidth 8]
      exec (.dataWordIn word) s = .next { s with
        engine := { s.engine with ring := s.engine.ring ++ four.take (min 4 s.port.bytesLeft) }
        port := { s.port with
          phase := if s.port.remaining ≤ 1 then .length else .data, remaining := s.port.remaining - 1
          bytesLeft := s.port.bytesLeft - min 4 s.port.bytesLeft } }) ∧
    (dpReady s = false ∨ requestDirection s ≠ some .inward → exec (.lengthWordIn word) s = .next s ∧ exec (.dataWordIn word) s = .next s)

/-- Admission (R105), for a block that no zone overlap touches and below number 2^32 - 1. Under an open session it passes to the engine
with its zone's compression policy, and the register empties (R106, R29); in a READ_ONLY zone the request ends with ZONE_PROTECTED
(R30). The first block of a session at the end of data begins the session's opening write, with the next session number and
catalog valid clear (R51, R121). -/
def Obligations.BlockAdmission : Prop :=
  ∀ (s : State) (o : Op) (w : Byte) (length : Nat), s.link.outstanding = some { op := o, tag := w, phase := .working } →
    o.isWrite = true → s.writer.state = .accepting → 0 < s.writer.requested → s.writer.refusal = none →
    s.writer.opening = false → s.engine.block = none → s.port.lengthWord = some length → s.catalog.current ≠ 4294967295 →
    overlapped s.catalog.zones s.catalog.current = false →
    (s.sessionOpen = true → accessOf s.catalog.zones s.catalog.current ≠ .readOnly →
      ∃ t b, exec .blockAdmission s = .next t ∧ t.engine = { s.engine with block := some b } ∧ b.number = s.catalog.current ∧
        b.rawLen = length ∧ b.isMarker = (length == 0) ∧
        b.tryCompress = compressionOf s.settings s.catalog.zones s.catalog.current ∧
        t.port = { s.port with lengthWord := none } ∧ t.link = s.link ∧ t.att = s.att ∧ t.settings = s.settings ∧
        t.medium = s.medium ∧ t.transport = s.transport ∧ t.tape = s.tape ∧ t.queue = s.queue ∧ t.writer = s.writer ∧
        t.reader = s.reader ∧ t.catalog = s.catalog ∧ t.gov = s.gov ∧ t.head = s.head) ∧
    (s.sessionOpen = true → accessOf s.catalog.zones s.catalog.current = .readOnly →
      ∃ t, exec .blockAdmission s = .next t ∧
        t.link = { s.link with
          outstanding := none
          queue := s.link.queue ++ [{ tag := w, code := .zoneProtected
                                      payload := .written s.writer.accepted s.catalog.current s.catalog.blockCount none }] } ∧
        t.port = { Port.idle with wordOut := s.port.wordOut } ∧ t.engine.ring = [] ∧ t.engine.block = none ∧
        t.writer.state = .behind ∧ t.catalog = s.catalog ∧ t.queue = s.queue ∧ t.medium = s.medium ∧ t.att = s.att) ∧
    ∀ r, s.sessionOpen = false → accessOf s.catalog.zones s.catalog.current ≠ .readOnly →
      s.catalog.current = s.catalog.blockCount → atEndOfArea s.appendSegment = false → s.memoryFault = false →
      s.medium.write = none → s.medium.identity.bind Identity.record = some r →
      exec .blockAdmission s = .next { s with
        writer := { s.writer with opening := true }
        medium := { s.medium with write := some { purpose := .sessionOpening, second := false, record := { r with
          valid := false, everWritten := true, sessionCounter := min 4294967295 (s.catalog.session + 1) } } } }

/-- Placement (R90 to R92, R110). What is left of a block fits into the FILLING slot: it is placed at the slot's fill, and the block is
accepted, Current Block rising with its location absent, its bytes released from the ring. With no FILLING slot, the lowest FREE
one opens with the session's next stripe number, when that is a number of the tape (R4), and takes it. The fill timeout closes a FILLING slot, which becomes READY with its
payload; with the timer stopped a timeout changes nothing (the model's choice, assumption 1). -/
def Obligations.Placement : Prop :=
  ∀ s : State,
    (∀ b i, s.Settled → s.engine.block = some b → b.phase = .placing → b.rest ≠ [] → s.writeOutstanding = true →
      s.opPhase = some .working → s.writer.accepted + 1 < s.writer.requested → s.writer.refusal = none →
      let accepted (t : State) : Prop :=
        t.engine.block = none ∧ t.engine.ring = s.engine.ring.drop b.rawLen ∧
        t.catalog.current = s.catalog.current + 1 ∧ t.catalog.location = none ∧
        t.catalog.blockCount = s.catalog.blockCount ∧ t.writer.accepted = s.writer.accepted + 1 ∧
        t.engine.meter.placed = min 4294967295 (s.engine.meter.placed + b.rest.length) ∧
        t.engine.meter.rawAccepted = min 4294967295 (s.engine.meter.rawAccepted + b.rawLen) ∧
        t.link = s.link ∧ t.att = s.att ∧ t.settings = s.settings ∧ t.medium = s.medium ∧ t.transport = s.transport ∧
        t.port = s.port ∧ t.head = s.head
      (s.fillingSlot = some i → (s.slot i).payload.length + b.rest.length < 262144 →
        (b.headerPlaced = true ∨ (s.slot i).payload.length + 16 ≤ 262144) →
        ∃ t, exec .blockPlacement s = .next t ∧ accepted t ∧ (t.slot i).payload = (s.slot i).payload ++ b.rest ∧
          (t.slot i).state = .filling ∧ (t.slot i).stripe = (s.slot i).stripe ∧ t.catalog.append = s.catalog.append) ∧
      (s.fillingSlot = none → s.lowestFree = some i → b.rest.length < 262144 →
        let n := if s.writer.opened then s.writer.highestStripe.getD 0 + 1 else s.catalog.append.stripe
        n ≤ 4095983 → ∃ t, exec .fillingSlotOpen s = .next t ∧ accepted t ∧ (t.slot i).payload = b.rest ∧ (t.slot i).state = .filling ∧
          (t.slot i).stripe = some n ∧ t.queue.fillTimer = true ∧ t.writer.highestStripe = some n ∧
          t.catalog.append = { s.catalog.append with stripe := n + 1 })) ∧
    (∀ i, s.queue.fillTimer = true → s.fillingSlot = some i →
      ∃ t, exec .fillTimeout s = .next t ∧ (t.slot i).state = .ready ∧ (t.slot i).payload = (s.slot i).payload ∧
        (t.slot i).stripe = (s.slot i).stripe ∧ (∀ j, j ≠ i → t.slot j = s.slot j) ∧ t.queue.fillTimer = false ∧
        t.link = s.link ∧ t.att = s.att ∧ t.medium = s.medium ∧ t.transport = s.transport ∧ t.engine = s.engine ∧
        t.port = s.port ∧ t.writer = s.writer ∧ t.reader = s.reader ∧ t.catalog = s.catalog ∧ t.head = s.head) ∧
    (s.queue.fillTimer = false → exec .fillTimeout s = .next s)

/-- The buffer arbiter (R102): at the end of a burst the highest of the waiting requesters is granted by the order of the Medium State
and the others go on waiting; while the Tape Channel writes or reads, its bursts are counted, and one not served in time is lost by its
number. That the number is the count of Tape Channel bursts ended since the segment began, the lost ones among them, is the model's
choice (assumption 79): R102 numbers no burst. Nothing else changes. -/
def Obligations.BufferBursts : Prop :=
  ∀ (arrivals : List Requester) (late : Bool) (s : State),
    let order : List Requester :=
      if s.medium.state ∈ [MediumState.mounting, .rebuilding, .unmounting] then
        [.tapeChannel, .catalogEngine, .compressionEngine, .dataPort]
      else [.tapeChannel, .compressionEngine, .dataPort, .catalogEngine]
    let asking := order.filter fun r => decide (r ∈ s.queue.waiting ∨ r ∈ arrivals)
    let passing := s.tape.gate || s.readActive
    let served := s.tape.served + (if passing && (s.queue.burst == some .tapeChannel) then 1 else 0)
    exec (.bufferBurstEnd arrivals late) s = .next { s with
      queue := { s.queue with burst := asking.head?, waiting := asking.drop 1 }
      tape := if late && passing then
          { s.tape with underrun := true, served := served + 1, lost := s.tape.lost ++ [served] }
        else { s.tape with served := served } }

/-- Plans and restarts. An empty standby slot of a write stream is filled with the READY stripe of the lowest number not yet planned,
for a segment at least three beyond every copy of it (R11, R74, R91). WRITE_RESTART, with as many READY stripes as the restart threshold, begins the stream from the resume segment
(R124, R166), and READ_RESTART, with as many FREE slots, from next to plan (R167) while a search is open or stripes of the catalog are
still to plan, where that is a segment of the data area: at
its ready point at once, else by a motion to it (R78, R79). A rebuild stopped for want of a slot begins again so at its own next segment, at
step 0 (R75, R167). That the Read Controller demands the stop that an ACQUIRING plan in the standby slot calls for, naming next to plan
(R164), when a plan is next offered is the model's choice (assumption 71): it sets the quick-fall mark of a governed stream (R160). -/
def Obligations.PlansAndRestarts : Prop :=
  ∀ s : State,
    (∀ i n k, s.Settled → s.transport.state = .streaming → s.transport.motion = .stream .write → s.transport.stop = .none →
      s.transport.standby = none → s.transport.pendingStep = none → s.writer.fault = none →
      s.writer.state ∈ [WriteState.accepting, .behind] → atEndOfArea s.nextSegment = false → i < s.queue.slots.length →
      (s.slot i).state = .ready → (s.slot i).planned = false → (s.slot i).stripe = some n → (s.slot i).copies = k →
      (∀ j m, j ≠ i → (s.slot j).state = .ready → (s.slot j).planned = false → (s.slot j).stripe = some m → n < m) →
      (0 < k ∨ s.writer.openWrap = some s.nextSegment.wrap) →
      (∀ r ∈ s.catalog.reports, ∀ c, r.copy = some (n, c) → ordinal r.addr + 3 ≤ ordinal s.nextSegment) →
      ∃ t, exec .planOffer s = .next t ∧ t.transport = { s.transport with standby := some (.write i n k) } ∧
        (t.slot i) = { s.slot i with planned := true } ∧ (∀ j, j ≠ i → t.slot j = s.slot j) ∧
        t.link = s.link ∧ t.att = s.att ∧ t.settings = s.settings ∧ t.medium = s.medium ∧ t.tape = s.tape ∧
        t.engine = s.engine ∧ t.port = s.port ∧ t.writer = s.writer ∧ t.reader = s.reader ∧ t.catalog = s.catalog ∧
        t.gov = s.gov ∧ t.head = s.head) ∧
    (s.transport.state = .stopped → s.transport.known = true →
      let begun (t : State) (o : Owner) (a : SegAddr) : Prop :=
        (s.transport.pos = readyPoint a → t.transport.motion = .stream o ∧ t.transport.state = .streaming ∧
          t.transport.step = s.gov.step) ∧
        (s.transport.pos ≠ readyPoint a → t.transport.motion = .travel (.stream o a) ∧ t.transport.state = .locating) ∧
        t.gov.step = s.gov.step ∧ t.transport.pos = s.transport.pos ∧ t.link = s.link ∧ t.att = s.att ∧
        t.settings = s.settings ∧ t.medium = s.medium ∧ t.queue = s.queue ∧ t.engine = s.engine ∧ t.port = s.port ∧
        t.writer = s.writer ∧ t.reader = s.reader ∧ t.catalog = s.catalog ∧ t.head = s.head
      (s.sessionOpen = true → s.writer.fault = none →
        s.settings.restartThreshold ≤ (s.queue.slots.filter fun x => x.state == .ready).length →
        let a := match s.writer.lastCopy with
          | some c => c.next
          | none => { wrap := s.catalog.append.wrap, seg := s.catalog.append.seg }
        ordinal a < 4095984 → ∃ t, exec .writeRestart s = .next t ∧ begun t .write a) ∧
      (∀ a, s.reader.nextPlan = some a → s.reader.state ∈ [ReadState.reading, .ahead] → s.reader.halted = false →
        s.reader.jump = false → s.reader.nextDrain ≠ none → ordinal a < 4095984 →
        ((∃ e ∈ s.reader.searches, e.expired = false) ∨ s.reader.atEnd = false ∧ s.reader.met = []) →
        s.settings.restartThreshold ≤ (s.queue.slots.filter fun x => x.state == .free).length →
        ∃ t, exec .readRestart s = .next t ∧ begun t .read a) ∧
      (∀ r, s.catalog.work = .rebuild r → s.reader.state = .idle → ordinal r.next < 4095984 →
        s.settings.restartThreshold ≤ (s.queue.slots.filter fun x => x.state == .free).length →
        ∃ t, exec .readRestart s = .next t ∧
          (s.transport.pos = readyPoint r.next → t.transport.motion = .stream .rebuild ∧ t.transport.state = .streaming ∧
            t.transport.step = 0) ∧
          (s.transport.pos ≠ readyPoint r.next → t.transport.motion = .travel (.stream .rebuild r.next) ∧
            t.transport.state = .locating) ∧
          t.gov = s.gov ∧ t.transport.pos = s.transport.pos ∧ t.link = s.link ∧ t.att = s.att ∧ t.settings = s.settings ∧
          t.medium = s.medium ∧ t.queue = s.queue ∧ t.engine = s.engine ∧ t.port = s.port ∧ t.writer = s.writer ∧
          t.reader = s.reader ∧ t.catalog = s.catalog ∧ t.head = s.head)) ∧
    ∀ k, s.Settled → s.transport.state = .streaming → s.transport.motion = .stream .read → s.transport.stop = .none →
      s.transport.standby = some (.acquiring k) → s.writer.state = .idle →
      exec .planOffer s = .next { s with
        transport := { s.transport with stop := .demanded s.reader.nextPlan }
        gov := { s.gov with quick := s.gov.quick || s.gov.governed } }

/-- A WRITE plan in the standby slot at the boundary that begins its segment (R74, R76, R93, R124). With the synthesizer LOCKED at the
step in effect and fewer than two elements DEAD the write gate opens: the stripe's header is written as its slot and account give
it (R8, R11), the slot is IN_FLIGHT, its check is due, and the append point stays. That the last copy segment and the segment's
report are made as the gate opens is the model's choice (assumption 20): R124 reports a segment that has ended. At the boundary that
ends a copy written whole the gate falls, the elements carry erase current through the gap that follows (R12), and the append point
moves on (R13, R22). With the synthesizer OFF the plan is refused: the gate stays closed and the slot may be planned again. -/
def Obligations.AWriteCopyBegins : Prop :=
  (∀ (s : State) (r : BoundaryReads) (i n k session : Nat) (acct : Account), s.Settled → s.transport.state = .streaming →
     s.transport.motion = .stream .write → s.transport.stop = .none → s.transport.startAt = none →
     s.transport.unhanded = 0 → s.transport.standby = some (.write i n k) → s.transport.active = some .gap → s.transport.pendingStep = none →
     s.transport.step = s.gov.step → s.transport.markSeen = true → s.transport.missing < 8 → s.tape.flights = [] → s.tape.writing = none →
     s.writer.session = some session → s.writer.state ∈ [WriteState.accepting, .behind] → s.writer.fault = none →
     deadCount s.head.table < 2 → i < s.queue.slots.length → (s.slot i).state = .ready → (s.slot i).stripe = some n →
     (s.slot i).account = some acct → (∀ j, (s.slot j).state = .ready → (s.slot j).planned = true) →
     let p := s.transport.pos
     let a : SegAddr := { wrap := p.wrap, seg := p.seg + (if p.wrap % 2 = 0 then 1 else -1) }
     inDataArea p.seg = true → inDataArea a.seg = true → p.wrap ≤ 63 →
     (s.transport.synth = .locked → s.transport.lockedStep = s.transport.step →
       ∃ t, exec (.segmentBoundary false r) s = .next t ∧ t.tape.gate = true ∧
         t.tape.writing = some
           { stripe := n, session := session, firstPiece := acct.firstPiece, firstOffset := acct.firstOffset, copy := k,
             used := (s.slot i).payload.length, wrap := a.wrap, seg := a.seg, isData := true, starts := acct.starts,
             markers := acct.markers } ∧
         t.tape.flights = [{ addr := a, slot := some i, stripe := n, copy := k, underrun := false }] ∧
         (t.slot i).state = .inFlight ∧ (t.slot i).copies = k ∧ (t.slot i).payload = (s.slot i).payload ∧
         t.writer.lastCopy = some a ∧ t.writer.session = some session ∧ t.transport.active = some (.write i n k) ∧
         t.transport.standby = none ∧ t.transport.stop = .none ∧ t.transport.pos = { wrap := a.wrap, seg := a.seg, tach := 0 } ∧
         t.catalog.append = s.catalog.append ∧
         { addr := a, copy := some (n, k) } ∈ t.catalog.reports ∧ t.catalog.extents = s.catalog.extents ∧
         t.catalog.current = s.catalog.current ∧ t.link = s.link ∧ t.medium = s.medium ∧ t.settings = s.settings ∧
         t.engine = s.engine ∧ t.port = s.port ∧ t.reader = s.reader ∧ t.head = s.head) ∧
     (s.transport.synth = .off →
       ∃ t, exec (.segmentBoundary false r) s = .next t ∧ t.tape.gate = false ∧ t.tape.writing = none ∧
         t.tape.flights = [] ∧ (t.slot i) = { s.slot i with planned := false } ∧
         t.writer = s.writer ∧ t.transport.pos = { wrap := a.wrap, seg := a.seg, tach := 0 } ∧
         t.catalog.append = s.catalog.append ∧ t.link = s.link ∧ t.medium = s.medium ∧ t.head = s.head)) ∧
  ∀ (s : State) (r : BoundaryReads) (i n k session : Nat) (h : StripeHeader) (f : Flight), s.Settled →
    s.transport.state = .streaming → s.transport.motion = .stream .write → s.transport.stop = .none → s.transport.startAt = none →
    s.transport.unhanded = 0 → s.transport.standby = none → s.transport.active = some (.write i n k) → s.transport.pendingStep = none →
    s.transport.step = s.gov.step → s.transport.markSeen = true → s.transport.missing < 8 → s.tape.gate = true →
    s.tape.writing = some h → s.tape.flights = [f] → f.addr = s.transport.pos.addr → s.writer.session = some session →
    s.writer.state ∈ [WriteState.accepting, .behind] → s.writer.fault = none → deadCount s.head.table < 2 →
    i < s.queue.slots.length → (s.slot i).state = .inFlight → (∀ j, (s.slot j).state = .ready → (s.slot j).planned = true) →
    let p := s.transport.pos
    let a : SegAddr := { wrap := p.wrap, seg := p.seg + (if p.wrap % 2 = 0 then 1 else -1) }
    inDataArea p.seg = true → inDataArea a.seg = true → p.wrap ≤ 63 →
    ∃ t, exec (.segmentBoundary false r) s = .next t ∧ t.tape.gate = false ∧ t.tape.writing = none ∧ t.tape.erase = true ∧
      t.tape.flights.map Flight.addr = [f.addr] ∧ t.slot i = s.slot i ∧ t.transport.active = some .gap ∧
      t.transport.pos = { wrap := a.wrap, seg := a.seg, tach := 0 } ∧
      t.catalog.append = { s.catalog.append with wrap := a.wrap, seg := a.seg } ∧ t.catalog.extents = s.catalog.extents ∧
      t.link = s.link ∧ t.medium = s.medium ∧ t.settings = s.settings ∧ t.head = s.head

/-- The verdict of read-after-write verification and the Extent Table it fills. The check of a copy is counted over the elements not DEAD;
below the rewrite threshold the stripe is confirmed, its slot FREE and its account with the catalog; at it or above, the slot is READY
for another copy, which takes the segment at hand in place of a GAP when that lies far enough from the other copies and the gate opens
(R11, R94, R126, R127); with copy 3 the session has the fault WRITE_FAILED, here, with no other stripe, at once its end, held as a
Deferred Error (R129 to R132). A confirmed stripe joins the confirmed prefix when it is the next of it, and waits otherwise; on joining
it adds one stripe, and each block that ends in it, to the table, and the last segment of its extent moves on over the longest run of
gaps and copies of prefix stripes that ends on such a copy, each segment passed being counted (R20, R21). A cut keeps the stripes and
blocks before it, with the last extent trimmed (R25). The block counts of the extents sum to block count after each of them when they did
before; a block count beyond 2^32 - 1 is no part of it. -/
def Obligations.VerdictsAndTheExtentTable : Prop :=
  (∀ (s : State) (r : BoundaryReads) (i n k session : Nat) (acct : Account) (f : Flight), s.Settled →
    s.transport.state = .streaming → s.transport.motion = .stream .write → s.transport.stop = .none → s.transport.startAt = none →
    s.transport.unhanded = 0 → s.transport.standby = none → s.transport.active = some .gap → s.transport.pendingStep = none →
    s.transport.step = s.gov.step → s.transport.markSeen = true → s.transport.missing < 8 → s.tape.writing = none →
    s.tape.flights = [f] → f.slot = some i → f.stripe = n → f.copy = k → s.link.outstanding = none →
    s.writer.session = some session → s.writer.state = .behind → s.writer.fault = none → deadCount s.head.table < 2 →
    stagesHeld s.queue.slots = true → i < s.queue.slots.length → (s.slot i).state = .inFlight → (s.slot i).stripe = some n →
    (s.slot i).copies = k → (s.slot i).account = some acct → (∀ j, j ≠ i → (s.slot j).isWrite = false) →
    let p := s.transport.pos
    let a : SegAddr := { wrap := p.wrap, seg := p.seg + (if p.wrap % 2 = 0 then 1 else -1) }
    inDataArea p.seg = true → inDataArea a.seg = true → p.wrap ≤ 63 → ordinal f.addr + 3 = ordinal a →
    let fails := failMarks r.check f.underrun
    let c := ((List.range 18).filter fun j =>
      fails.getD j true && ((s.head.table.getD j Element.unscanned).status != .dead)).length
    let gap : Catalog := { s.catalog with reports := addReport s.catalog.reports { addr := p.addr, copy := none } }
    ∃ t, exec (.segmentBoundary false r) s = .next t ∧ t.transport.pos = { wrap := a.wrap, seg := a.seg, tach := 0 } ∧
      t.medium = s.medium ∧ t.settings = s.settings ∧
      (c < s.settings.rewriteThreshold → t.slot i = Slot.empty ∧ t.catalog = gap.confirm session n acct ∧
        t.tape.flights = [] ∧ t.writer = s.writer ∧ t.link = s.link) ∧
      (s.settings.rewriteThreshold ≤ c → k ≤ 2 → s.transport.synth = .off →
        t.slot i = { s.slot i with state := .ready, copies := k + 1, planned := false, failedTracks := countFails fails } ∧
          t.catalog = gap ∧ t.tape.flights = [] ∧ t.tape.gate = false ∧ t.writer = s.writer ∧ t.link = s.link) ∧
      (s.settings.rewriteThreshold ≤ c → k ≤ 2 → s.transport.synth = .locked → s.transport.lockedStep = s.transport.step →
        (∀ q ∈ s.catalog.reports, ∀ m, q.copy = some (n, m) → ordinal q.addr + 3 ≤ ordinal a) →
        (t.slot i).state = .inFlight ∧ (t.slot i).copies = k + 1 ∧ (t.slot i).payload = (s.slot i).payload ∧
          t.transport.active = some (.write i n (k + 1)) ∧ t.tape.gate = true ∧
          t.tape.flights = [{ addr := a, slot := some i, stripe := n, copy := k + 1, underrun := false }] ∧
          t.catalog.extents = s.catalog.extents ∧ t.link = s.link) ∧
      (s.settings.rewriteThreshold ≤ c → k = 3 →
        (∀ slot ∈ t.queue.slots, slot.isWrite = false) ∧ t.transport.stop = .immediate ∧ t.tape.gate = false ∧
          t.tape.flights = [] ∧ t.writer.session = none ∧ t.writer.state = .idle ∧
          t.writer.deferred = some { code := .writeFailed, firstLost := s.catalog.blockCount,
                                     lost := s.catalog.current - s.catalog.blockCount, further := 0 } ∧
          t.att.pending &&& Kind.deferredError.bit ≠ 0 ∧ t.catalog.extents = s.catalog.extents ∧
          t.catalog.current = s.catalog.blockCount ∧ t.link = s.link)) ∧
  (∀ (c : Catalog) (session n : Nat) (acct : Account),
    (c.nextJoin ≠ n → (∀ q ∈ c.confirmed, q.1 ≠ c.nextJoin) →
      c.confirm session n acct = { c with confirmed := c.confirmed ++ [(n, acct)] }) ∧
    (c.confirmed = [] → c.nextJoin = n →
      c.confirm session n acct = { c.join session n acct with nextJoin := n + 1 })) ∧
  (∀ (c : Catalog) (session n : Nat) (acct : Account), (c.extents.map Extent.blocks).sum = c.blockCount →
    c.blockCount + acct.ending.length ≤ 4294967295 →
    let d := c.join session n acct
    d.blockCount = c.blockCount + acct.ending.length ∧ (d.extents.map Extent.blocks).sum = d.blockCount ∧
      (d.extents.map Extent.stripes).sum = (c.extents.map Extent.stripes).sum + 1 ∧ d.dirty = true ∧
      d.append = c.append ∧ d.session = c.session ∧ d.current = c.current ∧ d.location = c.location) ∧
  (∀ (e : Extent) (rs : List SegReport) (top : Nat),
    let d := e.extend rs top
    let step : Int := if e.wrap % 2 = 0 then 1 else -1
    let here (m : Nat) : Option (Option (Nat × Nat)) :=
      (reportAt rs { wrap := e.wrap, seg := e.last + m * step }).map SegReport.copy
    let prefixCopy (m : Nat) : Prop := ∃ n k, here m = some (some (n, k)) ∧ n ≤ top
    ∃ run : Nat, d.last = e.last + run * step ∧
      (0 < run → prefixCopy run) ∧ (∀ m, 1 ≤ m → m ≤ run → here m = some none ∨ prefixCopy m) ∧
      (∀ m, run < m → prefixCopy m → ∃ j, run < j ∧ j < m ∧ here j ≠ some none ∧ ¬prefixCopy j) ∧
      d.gaps = e.gaps + ((List.range run).filter fun m => here (m + 1) == some none).length ∧
      d.rewrites = e.rewrites + ((List.range run).filter fun m =>
        match here (m + 1) with | some (some (_, k)) => k != 0 | _ => false).length ∧
      d = { e with last := d.last, gaps := d.gaps, rewrites := d.rewrites }) ∧
  (∀ c : Catalog, c.cut 0 = { c with
    extents := [], blockCount := 0, markerCount := 0, dirty := true, append := { wrap := 0, seg := 16, stripe := 0 } }) ∧
  ∀ (c : Catalog) (b i : Nat) (e : Extent) (l : Location), 0 < b → c.location = some l →
    (∀ j x, c.extents[j]? = some x → x.firstBlock = ((c.extents.take j).map Extent.blocks).sum) →
    c.extents.Pairwise (fun x y => x.firstStripe + x.stripes ≤ y.firstStripe) →
    let kept := if l.atZero then l.stripe - 1 else l.stripe
    (l.atZero = true → 0 < l.stripe) → extentOfStripe c.extents kept = some (i, e) → e.firstBlock ≤ b →
    let whole : Prop := kept + 1 = e.firstStripe + e.stripes ∧ b = e.firstBlock + e.blocks
    let stripes := kept + 1 - e.firstStripe
    let blocks := b - e.firstBlock
    let last := if l.atZero then e.last else l.seg
    let span := (last - e.first).natAbs + 1
    let gaps := min e.gaps (span - stripes)
    let after := ({ wrap := l.wrap, seg := l.seg } : SegAddr).next
    let d := c.cut b
    (∃ x, d.extents = c.extents.take i ++ [x] ∧ (whole → x = e) ∧
      (¬whole → x = { e with
        stripes := stripes, blocks := blocks, last := last, gaps := gaps, rewrites := span - stripes - gaps
        raw := e.raw * blocks / e.blocks, stored := e.stored * blocks / e.blocks, markers := min e.markers blocks })) ∧
      d.blockCount = b ∧ (d.extents.map Extent.blocks).sum = b ∧ d.markerCount = (d.extents.map Extent.markers).sum ∧
      d.dirty = true ∧
      d.append = (if l.atZero then { wrap := l.wrap, seg := l.seg, stripe := l.stripe }
        else { wrap := after.wrap, seg := after.seg, stripe := l.stripe + 1 })

/-! ### The read path -/

/-- Draining, expansion and the Data Port outward. DRAINING_START takes the DECODED slot of the stripe named next to drain, the walk
entering it at its first header (R99, R113), the skipped bytes counted as taken (R116). BLOCK_EXPANSION of a wanted RAW block that stands
whole in the DRAINING stripe, no zone overlapping on it: its bytes go to OUTFLOW, their CRC-32 checked (R114), and the port shows its
length word (R115); a slot left with no byte, or in which the extent ends with the block, is FREE and the stripe after it is next to
drain (R99, R145). The length word is driven and data words follow, each with the block's next four bytes, most significant first, zeros
in place of bytes beyond its end (R104); with the last of them, or for a marker with its length word, the block is sent: the sent
count and next to deliver rise, the walk goes back to HEADER and the port is IDLE (R115). A block so sent counts as delivered only when
the header of its successor has been located (R145). With DP_VALID low no word passes (R97), nor with DP_DIR opposite to the outstanding
request (R104): that DP_DIR shows the out direction with either command is the model's choice (assumption 9). -/
def Obligations.DrainExpansionAndWordsOut : Prop :=
  ∀ (s : State) (i n : Nat),
    (∀ h o, s.reading = true → s.reader.ending = none → s.drainingSlot = none → s.engine.walk = none →
      s.reader.nextDrain = some n → (s.findSlot fun t => (t.state == .decoded) && (t.stripe == some n)) = some i →
      (s.slot i).header = some h → h.firstOffset = some o → o < (s.slot i).payload.length →
      ∃ t, exec .drainingStart s = .next t ∧ (t.slot i).state = .draining ∧ (t.slot i).stripe = some n ∧
        (t.slot i).payload = (s.slot i).payload.drop o ∧ (∀ j, j ≠ i → t.slot j = s.slot j) ∧
        t.engine.walk = some { expected := h.firstHeader, phase := .header, current := none, taken := [], kept := none } ∧
        t.engine.meter.taken = min 4294967295 (s.engine.meter.taken + o) ∧
        t.reader.corrected =
          (if 0 < (s.slot i).failedTracks then min 65535 (s.reader.corrected + 1) else s.reader.corrected) ∧
        t.link = s.link ∧ t.att = s.att ∧ t.settings = s.settings ∧ t.medium = s.medium ∧ t.transport = s.transport ∧
        t.tape = s.tape ∧ t.port = s.port ∧ t.writer = s.writer ∧ t.catalog = s.catalog ∧ t.gov = s.gov ∧ t.head = s.head) ∧
    (∀ bs rest b w, s.Settled → s.wantsBlock = true → s.outflowHeld = true → s.sessionOpen = false → s.port.phase = .idle →
      s.drainingSlot = some i → (s.slot i).stripe = some n → i < s.queue.slots.length →
      1 ≤ bs.length → bs.length ≤ 262144 → b < 4294967296 →
      (s.slot i).payload = (BlockHeader.make b bs.length bs.length flagRaw (crc32 bs)).bytes ++ bs ++ rest →
      s.engine.walk = some w → w.expected = b → w.phase = .header → w.current = none → w.taken = [] → w.kept = none →
      s.reader.nextDeliver = b → s.extentEnd n ≠ some b →
      overlapped s.catalog.zones b = false →
      ∃ t, exec .blockExpansion s = .next t ∧
        t.port = { s.port with phase := .sendLength, lengthWord := some bs.length, remaining := (bs.length + 3) / 4
                               bytesLeft := bs.length } ∧
        t.engine.outflow = bs ∧ t.engine.walk.map Walk.phase = some .hold ∧
        (s.extentEnd n ≠ some (b + 1) → rest ≠ [] →
          (t.slot i).payload = rest ∧ (t.slot i).state = .draining ∧ t.reader.nextDrain = s.reader.nextDrain) ∧
        (s.extentEnd n ≠ some (b + 1) → rest = [] → t.slot i = Slot.empty ∧ t.reader.nextDrain = some (n + 1)) ∧
        (s.extentEnd n = some (b + 1) → t.slot i = Slot.empty ∧ t.reader.nextDrain = some (s.stripeAfterExtent n)) ∧
        t.reader.handed.length = s.reader.handed.length + 1 ∧ t.reader.delivered = s.reader.delivered ∧
        t.link = s.link ∧ t.att = s.att ∧ t.settings = s.settings ∧ t.medium = s.medium ∧ t.transport = s.transport ∧
        t.catalog = s.catalog ∧ t.writer = s.writer ∧ t.head = s.head) ∧
    (dpValid .outward s = false ∨ requestDirection s ≠ some .outward →
      exec .lengthWordOut s = .next s ∧ exec .dataWordOut s = .next s) ∧
    (requestDirection s = some .outward → s.port.phase = .sendLength → 0 < s.port.remaining →
      exec .lengthWordOut s = .next { s with port := { s.port with
        wordOut := BitVec.ofNat 32 (s.port.lengthWord.getD 0), phase := .sendData } }) ∧
    (∀ sent b0 b1 b2 b3 more, requestDirection s = some .outward → s.port.phase = .sendData → 1 < s.port.remaining →
      s.engine.outflow = sent ++ b0 :: b1 :: b2 :: b3 :: more → s.port.bytesLeft = 4 + more.length →
      exec .dataWordOut s = .next { s with port := { s.port with
        wordOut := b0 ++ b1 ++ b2 ++ b3, remaining := s.port.remaining - 1, bytesLeft := more.length } }) ∧
    ∀ xs x, s.Settled → requestDirection s = some .outward → s.reader.handed = xs ++ [x] → s.reader.ending = none →
      (∀ e ∈ s.reader.searches, some e.stripe = s.reader.nextDrain → e.expired = true → e.retries < s.settings.retryLimit) →
      (∀ y, s.reader.handed.head? = some y → ∃ k z, y.successor = some (k, z) ∧ ∀ m ∈ s.reader.met, m.stripe ≠ k) →
      let sentWith (word : Word32) : State :=
        { s with
          port := { Port.idle with wordOut := word }
          engine := { s.engine with
            outflow := []
            walk := s.engine.walk.map fun w =>
              { w with phase := .header, expected := w.expected + 1, current := none, taken := [] } }
          reader := { s.reader with
            sent := s.reader.sent + 1, nextDeliver := s.reader.nextDeliver + 1, handed := xs ++ [{ x with sent := true }] } }
      (s.port.phase = .sendLength → s.port.remaining = 0 →
        exec .lengthWordOut s = .next (sentWith (BitVec.ofNat 32 (s.port.lengthWord.getD 0)))) ∧
      ∀ sent last, s.port.phase = .sendData → s.port.remaining = 1 → 1 ≤ last.length → last.length ≤ 4 →
        s.engine.outflow = sent ++ last → s.port.bytesLeft = last.length →
        exec .dataWordOut s =
          .next (sentWith (last.getD 0 0 ++ last.getD 1 0 ++ last.getD 2 0 ++ last.getD 3 0))

/-- Blocks counted and searches expired. When the header of the successor of the oldest block sent has been located, Current Block and its
location advance and the block counts as delivered, the READ BLOCKS going on while it wants more (R145). The lowest expired search
below the retry limit, during a READ BLOCKS that none at its limit fails, is retried: 4 segments upstream of its first copy met, or of its opening segment, not
upstream of the extent, by a controlled stop that names that segment and a stream from there (R147). -/
def Obligations.BlocksCountedAndSearches : Prop :=
  ∀ (s : State) (tag : Byte) (n : Nat), s.link.outstanding = some { op := .readBlocks n, tag := tag, phase := .working } →
    (∀ x xs k z m, s.Settled → s.reader.handed = x :: xs → x.sent = true → x.isMarker = false → x.successor = some (k, z) →
      (s.reader.met.find? fun m => m.stripe == k) = some m → s.reader.ending = none → s.reader.request = some (.readBlocks n) →
      s.catalog.current + 1 ≠ s.catalog.blockCount → s.reader.delivered + 1 < n → s.catalog.positionValid = true →
      exec .successorHeaderLocated s = .next { s with
        catalog := { s.catalog with
          current := s.catalog.current + 1
          location := some { stripe := k, wrap := m.addr.wrap, seg := m.addr.seg, atZero := z, headerOnly := !m.decodable } }
        reader := { s.reader with delivered := s.reader.delivered + 1, handed := xs } }) ∧
    ∀ e i x, (s.reader.searches.find? fun e => e.expired && decide (e.retries < s.settings.retryLimit)) = some e →
      s.reader.ending = none → s.reader.retrying = none →
      (∀ y ∈ s.reader.searches, some y.stripe = s.reader.nextDrain → y.expired = true → y.retries < s.settings.retryLimit) → extentOfStripe s.catalog.extents e.stripe = some (i, x) → s.transport.state = .streaming →
      s.transport.stop = .none →
      let a := SegAddr.back 4 (e.firstCopy.getD e.opening)
      let first : SegAddr := { wrap := x.wrap, seg := x.first }
      let start := if ordinal a < ordinal first then first else a
      ∃ t, exec .searchExpired s = .next t ∧ t.reader.nextPlan = some start ∧ t.reader.retrying = some start ∧
        t.reader.halted = false ∧ (∀ y ∈ t.reader.searches, y.stripe = e.stripe →
          y = { e with retries := e.retries + 1, expired := false, left := 12, armed := false }) ∧
        t.transport.stop = .demanded (some start) ∧ t.transport.deferred = some (.stream .read start) ∧
        t.catalog = s.catalog ∧ t.link = s.link ∧ t.att = s.att ∧ t.settings = s.settings ∧ t.medium = s.medium ∧
        t.queue = s.queue ∧ t.engine = s.engine ∧ t.port = s.port ∧ t.writer = s.writer ∧ t.head = s.head

/-! ### Formats -/

/-- Compression and expansion (R106 to R109, R114). The stored form that the engine makes of a block of 1 to 262,144 bytes is never
longer than the block, its header passes the test of R14 for the block's number, and the expansion of it gives the block back,
every check passed. A block stored RAW is its own stored form, and so is every block under the RAW policy. A block under TRY has one
token stream: at each position the longest match of 3 to 18 bytes from 1 to 2,048 bytes back, with the smallest offset among equal
lengths, else a literal; literals in runs of 128 and a last shorter one before a match or the block's end. It is stored COMPRESSED, as
that stream, exactly when the stream is shorter than the block. -/
def Obligations.ExpansionInvertsCompression : Prop :=
  ∀ (number : Nat) (bs : List Byte) (tryCompress : Bool), number < 4294967296 → 1 ≤ bs.length → bs.length ≤ 262144 →
    let b := (BlockRecord.opened number bs.length false tryCompress).run bs
    let h := BlockHeader.parse (b.rest.take 16)
    let stored := b.rest.drop 16
    b.phase = .placing ∧ h.passes number = true ∧ h.rawLen = bs.length ∧ h.storedLen = stored.length ∧
      stored.length ≤ bs.length ∧ h.crc = crc32 bs ∧ expandBlock h stored = some bs ∧
      (tryCompress = false → h.flags = flagRaw) ∧ (h.flags = flagRaw → stored = bs) ∧
      let matchAt (p m d : Nat) : Prop :=
        1 ≤ d ∧ d ≤ 2048 ∧ d ≤ p ∧ m ≤ 18 ∧ p + m ≤ bs.length ∧ ∀ i, i < m → bs[p + i]? = bs[p + i - d]?
      let literal (p : Nat) : Prop := ∀ m d, matchAt p m d → m < 3
      let best (p m d : Nat) : Prop :=
        matchAt p m d ∧ 3 ≤ m ∧ ∀ m' d', matchAt p m' d' → m' < m ∨ m' = m ∧ d ≤ d'
      ∃ tokens : List (List Byte ⊕ Nat × Nat),
        let sizeOf (x : List Byte ⊕ Nat × Nat) : Nat := x.elim List.length Prod.fst
        let start (j : Nat) : Nat := ((tokens.take j).map sizeOf).sum
        let stream : List Byte := tokens.flatMap fun x => match x with
          | .inl lits => BitVec.ofNat 8 (lits.length - 1) :: lits
          | .inr (m, d) => [BitVec.ofNat 8 (0x80 + (m - 3) * 8 + (d - 1) / 256), BitVec.ofNat 8 ((d - 1) % 256)]
        start tokens.length = bs.length ∧
        (∀ j lits, tokens[j]? = some (.inl lits) → 1 ≤ lits.length ∧ lits.length ≤ 128 ∧
          (∀ i, i < lits.length → lits[i]? = bs[start j + i]? ∧ literal (start j + i)) ∧
          (lits.length < 128 → ∀ more, tokens[j + 1]? ≠ some (.inl more))) ∧
        (∀ j m d, tokens[j]? = some (.inr (m, d)) → best (start j) m d) ∧
        (tryCompress = true → stream.length < bs.length → h.flags = flagCompressed ∧ stored = stream) ∧
        (tryCompress = true → bs.length ≤ stream.length → h.flags = flagRaw)

/-- The parity tracks recover two lost tracks (R6 to R8). Of the eighteen tracks written for a stripe, each passes its own check; when at
most two of eighteen fail on reading and the others read as they were written, the header and the whole payload come back, CLEAN
with no failure and CORRECTED else; with three to seventeen failures the header alone does. -/
def Obligations.LostTracksAreRecovered : Prop :=
  ∀ (h : StripeHeader) (payload : List Byte), h.used = payload.length → payload.length ≤ 262144 →
    h.stripe < 4294967296 → h.session < 4294967296 → h.firstPiece < 4294967296 →
    (∀ o, h.firstOffset = some o → o < 0xFFFFFF) → h.copy < 256 → h.wrap < 64 → 0 ≤ h.seg → h.seg < 64000 →
    h.starts < 65536 → h.markers < 65536 →
    (stripeTracks h payload).length = 18 ∧
    (∀ bytes ∈ stripeTracks h payload, ∀ amplitude,
      trackFails { lost := false, bytes := bytes, amplitude := amplitude } = false) ∧
    ∀ (a : SegAddr) (reads : List TrackRead), kindFits a h = true → reads.length = 18 →
      (∀ (i : Nat) (t : TrackRead), reads[i]? = some t → trackFails t = false → (stripeTracks h payload)[i]? = some t.bytes) →
      let f := (reads.filter trackFails).length
      let r := readSegment a reads false
      (f ≤ 2 → r.header = some h ∧ r.payload = payload ∧ r.outcome = (if f = 0 then .clean else .corrected)) ∧
      (3 ≤ f → f ≤ 17 → r.header = some h ∧ r.payload = [] ∧ r.outcome = .headerOnly)
end

