-- ==== Sys2Proof/Laws/State.lean ====
section
/-! SUPPORT. What the state's named updates write and what they leave as it was: for each operation of Machine/HeadOps.lean
and Machine/Ops.lean the records it keeps whole, with the queue of commands, the settings, the lengths of the two tables, the
current step and the counter. -/

namespace Sys2Proof.Machine

/-! ### Operations of Machine/HeadOps.lean -/

@[simp] theorem HeadMonitor.commit_table (h : HeadMonitor) : h.commit.table = h.table := rfl

@[simp] theorem HeadMonitor.takeResults_table_length (h : HeadMonitor) (fails : List Bool) :
    (h.takeResults fails).table.length = h.table.length := by
  simp [HeadMonitor.takeResults, countElementFails]

@[simp] theorem State.raise_frame (s : State) (k : Kind) :
      (State.raise s k).link = s.link ∧
      (State.raise s k).medium = s.medium ∧
      (State.raise s k).transport = s.transport ∧
      (State.raise s k).tape = s.tape ∧
      (State.raise s k).queue = s.queue ∧
      (State.raise s k).engine = s.engine ∧
      (State.raise s k).port = s.port ∧
      (State.raise s k).writer = s.writer ∧
      (State.raise s k).reader = s.reader ∧
      (State.raise s k).catalog = s.catalog ∧
      (State.raise s k).gov = s.gov ∧
      (State.raise s k).head = s.head ∧
      (State.raise s k).pending = s.pending ∧
      (State.raise s k).settings = s.settings := by
  simp [State.raise]

@[simp] theorem State.raiseIf_frame (s : State) (b : Bool) (k : Kind) :
      (State.raiseIf s b k).link = s.link ∧
      (State.raiseIf s b k).medium = s.medium ∧
      (State.raiseIf s b k).transport = s.transport ∧
      (State.raiseIf s b k).tape = s.tape ∧
      (State.raiseIf s b k).queue = s.queue ∧
      (State.raiseIf s b k).engine = s.engine ∧
      (State.raiseIf s b k).port = s.port ∧
      (State.raiseIf s b k).writer = s.writer ∧
      (State.raiseIf s b k).reader = s.reader ∧
      (State.raiseIf s b k).catalog = s.catalog ∧
      (State.raiseIf s b k).gov = s.gov ∧
      (State.raiseIf s b k).head = s.head ∧
      (State.raiseIf s b k).pending = s.pending ∧
      (State.raiseIf s b k).settings = s.settings := by
  unfold State.raiseIf; split <;> simp

@[simp] theorem State.evaluateLevel_frame (s : State) :
      (State.evaluateLevel s).link = s.link ∧
      (State.evaluateLevel s).medium = s.medium ∧
      (State.evaluateLevel s).transport = s.transport ∧
      (State.evaluateLevel s).tape = s.tape ∧
      (State.evaluateLevel s).queue = s.queue ∧
      (State.evaluateLevel s).engine = s.engine ∧
      (State.evaluateLevel s).port = s.port ∧
      (State.evaluateLevel s).writer = s.writer ∧
      (State.evaluateLevel s).reader = s.reader ∧
      (State.evaluateLevel s).catalog = s.catalog ∧
      (State.evaluateLevel s).gov = s.gov ∧
      (State.evaluateLevel s).pending = s.pending ∧
      (State.evaluateLevel s).settings = s.settings ∧
      (State.evaluateLevel s).head.table.length = s.head.table.length := by
  simp [State.evaluateLevel]

@[simp] theorem State.setTable_frame (s : State) (table : List Element) :
      (State.setTable s table).link = s.link ∧
      (State.setTable s table).medium = s.medium ∧
      (State.setTable s table).transport = s.transport ∧
      (State.setTable s table).tape = s.tape ∧
      (State.setTable s table).queue = s.queue ∧
      (State.setTable s table).engine = s.engine ∧
      (State.setTable s table).port = s.port ∧
      (State.setTable s table).writer = s.writer ∧
      (State.setTable s table).reader = s.reader ∧
      (State.setTable s table).catalog = s.catalog ∧
      (State.setTable s table).gov = s.gov ∧
      (State.setTable s table).pending = s.pending ∧
      (State.setTable s table).settings = s.settings := by
  simp [State.setTable]

@[simp] theorem State.setTable_table (s : State) (table : List Element) :
      (s.setTable table).head.table = table := by simp [State.setTable]

@[simp] theorem State.commitPc_frame (s : State) :
      (State.commitPc s).link = s.link ∧
      (State.commitPc s).medium = s.medium ∧
      (State.commitPc s).transport = s.transport ∧
      (State.commitPc s).tape = s.tape ∧
      (State.commitPc s).queue = s.queue ∧
      (State.commitPc s).engine = s.engine ∧
      (State.commitPc s).port = s.port ∧
      (State.commitPc s).writer = s.writer ∧
      (State.commitPc s).reader = s.reader ∧
      (State.commitPc s).catalog = s.catalog ∧
      (State.commitPc s).gov = s.gov ∧
      (State.commitPc s).pending = s.pending ∧
      (State.commitPc s).settings = s.settings ∧
      (State.commitPc s).head.table.length = s.head.table.length := by
  simp [State.commitPc]

@[simp] theorem State.decay_frame (s : State) :
      (State.decay s).link = s.link ∧
      (State.decay s).medium = s.medium ∧
      (State.decay s).transport = s.transport ∧
      (State.decay s).tape = s.tape ∧
      (State.decay s).queue = s.queue ∧
      (State.decay s).engine = s.engine ∧
      (State.decay s).port = s.port ∧
      (State.decay s).writer = s.writer ∧
      (State.decay s).reader = s.reader ∧
      (State.decay s).catalog = s.catalog ∧
      (State.decay s).gov = s.gov ∧
      (State.decay s).pending = s.pending ∧
      (State.decay s).settings = s.settings ∧
      (State.decay s).head.table.length = s.head.table.length := by
  simp [State.decay]

@[simp] theorem State.followLevels_frame (s : State) (levels : List Nat) :
      (State.followLevels s levels).link = s.link ∧
      (State.followLevels s levels).medium = s.medium ∧
      (State.followLevels s levels).transport = s.transport ∧
      (State.followLevels s levels).tape = s.tape ∧
      (State.followLevels s levels).queue = s.queue ∧
      (State.followLevels s levels).engine = s.engine ∧
      (State.followLevels s levels).port = s.port ∧
      (State.followLevels s levels).writer = s.writer ∧
      (State.followLevels s levels).reader = s.reader ∧
      (State.followLevels s levels).catalog = s.catalog ∧
      (State.followLevels s levels).gov = s.gov ∧
      (State.followLevels s levels).pending = s.pending ∧
      (State.followLevels s levels).settings = s.settings ∧
      (State.followLevels s levels).head.table.length = s.head.table.length := by
  unfold State.followLevels; split <;> simp

@[simp] theorem State.headResults_frame (s : State) (fails : List Bool) (levels : List Nat) :
      (State.headResults s fails levels).link = s.link ∧
      (State.headResults s fails levels).medium = s.medium ∧
      (State.headResults s fails levels).transport = s.transport ∧
      (State.headResults s fails levels).tape = s.tape ∧
      (State.headResults s fails levels).queue = s.queue ∧
      (State.headResults s fails levels).engine = s.engine ∧
      (State.headResults s fails levels).port = s.port ∧
      (State.headResults s fails levels).writer = s.writer ∧
      (State.headResults s fails levels).reader = s.reader ∧
      (State.headResults s fails levels).catalog = s.catalog ∧
      (State.headResults s fails levels).gov = s.gov ∧
      (State.headResults s fails levels).pending = s.pending ∧
      (State.headResults s fails levels).settings = s.settings ∧
      (State.headResults s fails levels).head.table.length = s.head.table.length := by
  unfold State.headResults; dsimp only; repeat' split
  all_goals simp

@[simp] theorem State.kilosegment_frame (s : State) :
      (State.kilosegment s).link = s.link ∧
      (State.kilosegment s).medium = s.medium ∧
      (State.kilosegment s).transport = s.transport ∧
      (State.kilosegment s).tape = s.tape ∧
      (State.kilosegment s).queue = s.queue ∧
      (State.kilosegment s).engine = s.engine ∧
      (State.kilosegment s).port = s.port ∧
      (State.kilosegment s).writer = s.writer ∧
      (State.kilosegment s).reader = s.reader ∧
      (State.kilosegment s).catalog = s.catalog ∧
      (State.kilosegment s).gov = s.gov ∧
      (State.kilosegment s).pending = s.pending ∧
      (State.kilosegment s).settings = s.settings ∧
      (State.kilosegment s).head.table.length = s.head.table.length := by
  simp [State.kilosegment]

@[simp] theorem State.discardPc_frame (s : State) :
      (State.discardPc s).link = s.link ∧
      (State.discardPc s).att = s.att ∧
      (State.discardPc s).medium = s.medium ∧
      (State.discardPc s).transport = s.transport ∧
      (State.discardPc s).tape = s.tape ∧
      (State.discardPc s).queue = s.queue ∧
      (State.discardPc s).engine = s.engine ∧
      (State.discardPc s).port = s.port ∧
      (State.discardPc s).writer = s.writer ∧
      (State.discardPc s).reader = s.reader ∧
      (State.discardPc s).catalog = s.catalog ∧
      (State.discardPc s).gov = s.gov ∧
      (State.discardPc s).pending = s.pending ∧
      (State.discardPc s).settings = s.settings ∧
      (State.discardPc s).head.table.length = s.head.table.length := by
  simp [State.discardPc]

@[simp] theorem State.startMountCounts_frame (s : State) :
      (State.startMountCounts s).link = s.link ∧
      (State.startMountCounts s).att = s.att ∧
      (State.startMountCounts s).medium = s.medium ∧
      (State.startMountCounts s).transport = s.transport ∧
      (State.startMountCounts s).tape = s.tape ∧
      (State.startMountCounts s).queue = s.queue ∧
      (State.startMountCounts s).engine = s.engine ∧
      (State.startMountCounts s).port = s.port ∧
      (State.startMountCounts s).writer = s.writer ∧
      (State.startMountCounts s).reader = s.reader ∧
      (State.startMountCounts s).catalog = s.catalog ∧
      (State.startMountCounts s).gov = s.gov ∧
      (State.startMountCounts s).pending = s.pending ∧
      (State.startMountCounts s).settings = s.settings ∧
      (State.startMountCounts s).head.table.length = s.head.table.length := by
  simp [State.startMountCounts]

@[simp] theorem State.openMount_frame (s : State) (serial : List Byte) :
      (State.openMount s serial).link = s.link ∧
      (State.openMount s serial).medium = s.medium ∧
      (State.openMount s serial).transport = s.transport ∧
      (State.openMount s serial).tape = s.tape ∧
      (State.openMount s serial).queue = s.queue ∧
      (State.openMount s serial).engine = s.engine ∧
      (State.openMount s serial).port = s.port ∧
      (State.openMount s serial).writer = s.writer ∧
      (State.openMount s serial).reader = s.reader ∧
      (State.openMount s serial).catalog = s.catalog ∧
      (State.openMount s serial).gov = s.gov ∧
      (State.openMount s serial).pending = s.pending ∧
      (State.openMount s serial).settings = s.settings ∧
      (State.openMount s serial).head.table.length = s.head.table.length := by
  unfold State.openMount; dsimp only; repeat' split
  all_goals simp

@[simp] theorem State.commitMount_frame (s : State) :
      (State.commitMount s).link = s.link ∧
      (State.commitMount s).medium = s.medium ∧
      (State.commitMount s).transport = s.transport ∧
      (State.commitMount s).tape = s.tape ∧
      (State.commitMount s).queue = s.queue ∧
      (State.commitMount s).engine = s.engine ∧
      (State.commitMount s).port = s.port ∧
      (State.commitMount s).writer = s.writer ∧
      (State.commitMount s).reader = s.reader ∧
      (State.commitMount s).catalog = s.catalog ∧
      (State.commitMount s).gov = s.gov ∧
      (State.commitMount s).pending = s.pending ∧
      (State.commitMount s).settings = s.settings ∧
      (State.commitMount s).head.table.length = s.head.table.length := by
  unfold State.commitMount; split <;> simp

@[simp] theorem State.cleaned_frame (s : State) :
      (State.cleaned s).link = s.link ∧
      (State.cleaned s).att = s.att ∧
      (State.cleaned s).medium = s.medium ∧
      (State.cleaned s).transport = s.transport ∧
      (State.cleaned s).tape = s.tape ∧
      (State.cleaned s).queue = s.queue ∧
      (State.cleaned s).engine = s.engine ∧
      (State.cleaned s).port = s.port ∧
      (State.cleaned s).writer = s.writer ∧
      (State.cleaned s).reader = s.reader ∧
      (State.cleaned s).catalog = s.catalog ∧
      (State.cleaned s).gov = s.gov ∧
      (State.cleaned s).pending = s.pending ∧
      (State.cleaned s).settings = s.settings ∧
      (State.cleaned s).head.table.length = s.head.table.length := by
  simp [State.cleaned]

/-! ### Operations of Machine/Ops.lean -/

@[simp] theorem State.respond_frame (s : State) (tag : Byte) (code : Code) (payload : Payload) :
      (State.respond s tag code payload).att = s.att ∧
      (State.respond s tag code payload).medium = s.medium ∧
      (State.respond s tag code payload).transport = s.transport ∧
      (State.respond s tag code payload).tape = s.tape ∧
      (State.respond s tag code payload).queue = s.queue ∧
      (State.respond s tag code payload).engine = s.engine ∧
      (State.respond s tag code payload).port = s.port ∧
      (State.respond s tag code payload).writer = s.writer ∧
      (State.respond s tag code payload).reader = s.reader ∧
      (State.respond s tag code payload).catalog = s.catalog ∧
      (State.respond s tag code payload).gov = s.gov ∧
      (State.respond s tag code payload).head = s.head ∧
      (State.respond s tag code payload).pending = s.pending ∧
      (State.respond s tag code payload).settings = s.settings := by
  simp [State.respond]

@[simp] theorem State.endOp_frame (s : State) (code : Code) (payload : Payload) :
      (State.endOp s code payload).att = s.att ∧
      (State.endOp s code payload).medium = s.medium ∧
      (State.endOp s code payload).transport = s.transport ∧
      (State.endOp s code payload).tape = s.tape ∧
      (State.endOp s code payload).queue = s.queue ∧
      (State.endOp s code payload).engine = s.engine ∧
      (State.endOp s code payload).port = s.port ∧
      (State.endOp s code payload).writer = s.writer ∧
      (State.endOp s code payload).reader = s.reader ∧
      (State.endOp s code payload).catalog = s.catalog ∧
      (State.endOp s code payload).gov = s.gov ∧
      (State.endOp s code payload).head = s.head ∧
      (State.endOp s code payload).pending = s.pending ∧
      (State.endOp s code payload).settings = s.settings := by
  unfold State.endOp; split <;> simp

@[simp] theorem State.setPhase_frame (s : State) (p : OpPhase) :
      (State.setPhase s p).att = s.att ∧
      (State.setPhase s p).medium = s.medium ∧
      (State.setPhase s p).transport = s.transport ∧
      (State.setPhase s p).tape = s.tape ∧
      (State.setPhase s p).queue = s.queue ∧
      (State.setPhase s p).engine = s.engine ∧
      (State.setPhase s p).port = s.port ∧
      (State.setPhase s p).writer = s.writer ∧
      (State.setPhase s p).reader = s.reader ∧
      (State.setPhase s p).catalog = s.catalog ∧
      (State.setPhase s p).gov = s.gov ∧
      (State.setPhase s p).head = s.head ∧
      (State.setPhase s p).pending = s.pending ∧
      (State.setPhase s p).settings = s.settings := by
  simp [State.setPhase]

@[simp] theorem State.enterMedium_frame (s : State) (m : MediumState) :
      (State.enterMedium s m).link = s.link ∧
      (State.enterMedium s m).transport = s.transport ∧
      (State.enterMedium s m).tape = s.tape ∧
      (State.enterMedium s m).queue = s.queue ∧
      (State.enterMedium s m).engine = s.engine ∧
      (State.enterMedium s m).port = s.port ∧
      (State.enterMedium s m).writer = s.writer ∧
      (State.enterMedium s m).reader = s.reader ∧
      (State.enterMedium s m).catalog = s.catalog ∧
      (State.enterMedium s m).gov = s.gov ∧
      (State.enterMedium s m).head = s.head ∧
      (State.enterMedium s m).pending = s.pending ∧
      (State.enterMedium s m).settings = s.settings := by
  simp [State.enterMedium]

@[simp] theorem State.setMediumPhase_frame (s : State) (p : MediumPhase) :
      (State.setMediumPhase s p).link = s.link ∧
      (State.setMediumPhase s p).att = s.att ∧
      (State.setMediumPhase s p).transport = s.transport ∧
      (State.setMediumPhase s p).tape = s.tape ∧
      (State.setMediumPhase s p).queue = s.queue ∧
      (State.setMediumPhase s p).engine = s.engine ∧
      (State.setMediumPhase s p).port = s.port ∧
      (State.setMediumPhase s p).writer = s.writer ∧
      (State.setMediumPhase s p).reader = s.reader ∧
      (State.setMediumPhase s p).catalog = s.catalog ∧
      (State.setMediumPhase s p).gov = s.gov ∧
      (State.setMediumPhase s p).head = s.head ∧
      (State.setMediumPhase s p).pending = s.pending ∧
      (State.setMediumPhase s p).settings = s.settings := by
  simp [State.setMediumPhase]

@[simp] theorem State.setSlots_frame (s : State) (slots : List Slot) :
      (State.setSlots s slots).link = s.link ∧
      (State.setSlots s slots).att = s.att ∧
      (State.setSlots s slots).medium = s.medium ∧
      (State.setSlots s slots).transport = s.transport ∧
      (State.setSlots s slots).tape = s.tape ∧
      (State.setSlots s slots).engine = s.engine ∧
      (State.setSlots s slots).port = s.port ∧
      (State.setSlots s slots).writer = s.writer ∧
      (State.setSlots s slots).reader = s.reader ∧
      (State.setSlots s slots).catalog = s.catalog ∧
      (State.setSlots s slots).gov = s.gov ∧
      (State.setSlots s slots).head = s.head ∧
      (State.setSlots s slots).pending = s.pending ∧
      (State.setSlots s slots).settings = s.settings := by
  simp [State.setSlots]

@[simp] theorem State.setSlots_length (s : State) (slots : List Slot) :
      (s.setSlots slots).queue.slots = slots := rfl

@[simp] theorem State.modifySlot_frame (s : State) (i : Nat) (f : Slot → Slot) :
      (State.modifySlot s i f).link = s.link ∧
      (State.modifySlot s i f).att = s.att ∧
      (State.modifySlot s i f).medium = s.medium ∧
      (State.modifySlot s i f).transport = s.transport ∧
      (State.modifySlot s i f).tape = s.tape ∧
      (State.modifySlot s i f).engine = s.engine ∧
      (State.modifySlot s i f).port = s.port ∧
      (State.modifySlot s i f).writer = s.writer ∧
      (State.modifySlot s i f).reader = s.reader ∧
      (State.modifySlot s i f).catalog = s.catalog ∧
      (State.modifySlot s i f).gov = s.gov ∧
      (State.modifySlot s i f).head = s.head ∧
      (State.modifySlot s i f).pending = s.pending ∧
      (State.modifySlot s i f).settings = s.settings ∧
      (State.modifySlot s i f).queue.slots.length = s.queue.slots.length := by
  simp [State.modifySlot]

@[simp] theorem State.freeSlot_frame (s : State) (i : Nat) :
      (State.freeSlot s i).link = s.link ∧
      (State.freeSlot s i).att = s.att ∧
      (State.freeSlot s i).medium = s.medium ∧
      (State.freeSlot s i).transport = s.transport ∧
      (State.freeSlot s i).tape = s.tape ∧
      (State.freeSlot s i).engine = s.engine ∧
      (State.freeSlot s i).port = s.port ∧
      (State.freeSlot s i).writer = s.writer ∧
      (State.freeSlot s i).reader = s.reader ∧
      (State.freeSlot s i).catalog = s.catalog ∧
      (State.freeSlot s i).gov = s.gov ∧
      (State.freeSlot s i).head = s.head ∧
      (State.freeSlot s i).pending = s.pending ∧
      (State.freeSlot s i).settings = s.settings ∧
      (State.freeSlot s i).queue.slots.length = s.queue.slots.length := by
  simp [State.freeSlot]

@[simp] theorem State.freeSlotsWhere_frame (s : State) (p : Slot → Bool) :
      (State.freeSlotsWhere s p).link = s.link ∧
      (State.freeSlotsWhere s p).att = s.att ∧
      (State.freeSlotsWhere s p).medium = s.medium ∧
      (State.freeSlotsWhere s p).transport = s.transport ∧
      (State.freeSlotsWhere s p).tape = s.tape ∧
      (State.freeSlotsWhere s p).engine = s.engine ∧
      (State.freeSlotsWhere s p).port = s.port ∧
      (State.freeSlotsWhere s p).writer = s.writer ∧
      (State.freeSlotsWhere s p).reader = s.reader ∧
      (State.freeSlotsWhere s p).catalog = s.catalog ∧
      (State.freeSlotsWhere s p).gov = s.gov ∧
      (State.freeSlotsWhere s p).head = s.head ∧
      (State.freeSlotsWhere s p).pending = s.pending ∧
      (State.freeSlotsWhere s p).settings = s.settings ∧
      (State.freeSlotsWhere s p).queue.slots.length = s.queue.slots.length := by
  simp [State.freeSlotsWhere]

theorem State.takeFree_frame (s : State) (st : SlotState) (p : State × Nat) (h : s.takeFree st = some p) :
      p.1.link = s.link ∧
      p.1.att = s.att ∧
      p.1.medium = s.medium ∧
      p.1.transport = s.transport ∧
      p.1.tape = s.tape ∧
      p.1.engine = s.engine ∧
      p.1.port = s.port ∧
      p.1.writer = s.writer ∧
      p.1.reader = s.reader ∧
      p.1.catalog = s.catalog ∧
      p.1.gov = s.gov ∧
      p.1.head = s.head ∧
      p.1.pending = s.pending ∧
      p.1.settings = s.settings ∧
      p.1.queue.slots.length = s.queue.slots.length := by
  unfold State.takeFree at h
  cases hf : s.lowestFree with
  | none => simp [hf] at h
  | some i => simp [hf] at h; subst h; simp

@[simp] theorem State.takeStage_frame (s : State) (st : SlotState) :
      (State.takeStage s st).link = s.link ∧
      (State.takeStage s st).att = s.att ∧
      (State.takeStage s st).medium = s.medium ∧
      (State.takeStage s st).transport = s.transport ∧
      (State.takeStage s st).tape = s.tape ∧
      (State.takeStage s st).engine = s.engine ∧
      (State.takeStage s st).port = s.port ∧
      (State.takeStage s st).writer = s.writer ∧
      (State.takeStage s st).reader = s.reader ∧
      (State.takeStage s st).catalog = s.catalog ∧
      (State.takeStage s st).gov = s.gov ∧
      (State.takeStage s st).head = s.head ∧
      (State.takeStage s st).pending = s.pending ∧
      (State.takeStage s st).settings = s.settings ∧
      (State.takeStage s st).queue.slots.length = s.queue.slots.length := by
  unfold State.takeStage
  split
  · simp
  · split
    · next h => have := State.takeFree_frame _ _ _ h; simp_all
    · simp

@[simp] theorem State.takeStages_frame (s : State) :
      (State.takeStages s).link = s.link ∧
      (State.takeStages s).att = s.att ∧
      (State.takeStages s).medium = s.medium ∧
      (State.takeStages s).transport = s.transport ∧
      (State.takeStages s).tape = s.tape ∧
      (State.takeStages s).engine = s.engine ∧
      (State.takeStages s).port = s.port ∧
      (State.takeStages s).writer = s.writer ∧
      (State.takeStages s).reader = s.reader ∧
      (State.takeStages s).catalog = s.catalog ∧
      (State.takeStages s).gov = s.gov ∧
      (State.takeStages s).head = s.head ∧
      (State.takeStages s).pending = s.pending ∧
      (State.takeStages s).settings = s.settings ∧
      (State.takeStages s).queue.slots.length = s.queue.slots.length := by
  simp [State.takeStages]

@[simp] theorem State.setTension_frame (s : State) (t : Tension) :
      (State.setTension s t).link = s.link ∧
      (State.setTension s t).att = s.att ∧
      (State.setTension s t).medium = s.medium ∧
      (State.setTension s t).tape = s.tape ∧
      (State.setTension s t).queue = s.queue ∧
      (State.setTension s t).engine = s.engine ∧
      (State.setTension s t).port = s.port ∧
      (State.setTension s t).writer = s.writer ∧
      (State.setTension s t).reader = s.reader ∧
      (State.setTension s t).catalog = s.catalog ∧
      (State.setTension s t).gov = s.gov ∧
      (State.setTension s t).head = s.head ∧
      (State.setTension s t).pending = s.pending ∧
      (State.setTension s t).settings = s.settings ∧
      (State.setTension s t).transport.pos = s.transport.pos := by
  simp [State.setTension]

@[simp] theorem State.enterTransport_frame (s : State) (t : TransportState) :
      (State.enterTransport s t).link = s.link ∧
      (State.enterTransport s t).att = s.att ∧
      (State.enterTransport s t).medium = s.medium ∧
      (State.enterTransport s t).tape = s.tape ∧
      (State.enterTransport s t).queue = s.queue ∧
      (State.enterTransport s t).engine = s.engine ∧
      (State.enterTransport s t).port = s.port ∧
      (State.enterTransport s t).writer = s.writer ∧
      (State.enterTransport s t).reader = s.reader ∧
      (State.enterTransport s t).catalog = s.catalog ∧
      (State.enterTransport s t).gov = s.gov ∧
      (State.enterTransport s t).head = s.head ∧
      (State.enterTransport s t).pending = s.pending ∧
      (State.enterTransport s t).settings = s.settings ∧
      (State.enterTransport s t).transport.pos = s.transport.pos := by
  simp [State.enterTransport]

@[simp] theorem State.dropPlan_frame (s : State) (p : Option Plan) :
      (State.dropPlan s p).link = s.link ∧
      (State.dropPlan s p).att = s.att ∧
      (State.dropPlan s p).medium = s.medium ∧
      (State.dropPlan s p).transport = s.transport ∧
      (State.dropPlan s p).tape = s.tape ∧
      (State.dropPlan s p).engine = s.engine ∧
      (State.dropPlan s p).port = s.port ∧
      (State.dropPlan s p).writer = s.writer ∧
      (State.dropPlan s p).reader = s.reader ∧
      (State.dropPlan s p).catalog = s.catalog ∧
      (State.dropPlan s p).gov = s.gov ∧
      (State.dropPlan s p).head = s.head ∧
      (State.dropPlan s p).pending = s.pending ∧
      (State.dropPlan s p).settings = s.settings ∧
      (State.dropPlan s p).queue.slots.length = s.queue.slots.length := by
  simp only [State.dropPlan]; repeat' split
  all_goals simp

@[simp] theorem State.emptyStandby_frame (s : State) :
      (State.emptyStandby s).link = s.link ∧
      (State.emptyStandby s).att = s.att ∧
      (State.emptyStandby s).medium = s.medium ∧
      (State.emptyStandby s).tape = s.tape ∧
      (State.emptyStandby s).engine = s.engine ∧
      (State.emptyStandby s).port = s.port ∧
      (State.emptyStandby s).writer = s.writer ∧
      (State.emptyStandby s).reader = s.reader ∧
      (State.emptyStandby s).catalog = s.catalog ∧
      (State.emptyStandby s).gov = s.gov ∧
      (State.emptyStandby s).head = s.head ∧
      (State.emptyStandby s).pending = s.pending ∧
      (State.emptyStandby s).settings = s.settings ∧
      (State.emptyStandby s).queue.slots.length = s.queue.slots.length ∧
      (State.emptyStandby s).transport.pos = s.transport.pos := by
  simp [State.emptyStandby]

@[simp] theorem State.emptyPlans_frame (s : State) :
      (State.emptyPlans s).link = s.link ∧
      (State.emptyPlans s).att = s.att ∧
      (State.emptyPlans s).medium = s.medium ∧
      (State.emptyPlans s).tape = s.tape ∧
      (State.emptyPlans s).engine = s.engine ∧
      (State.emptyPlans s).port = s.port ∧
      (State.emptyPlans s).writer = s.writer ∧
      (State.emptyPlans s).reader = s.reader ∧
      (State.emptyPlans s).catalog = s.catalog ∧
      (State.emptyPlans s).gov = s.gov ∧
      (State.emptyPlans s).head = s.head ∧
      (State.emptyPlans s).pending = s.pending ∧
      (State.emptyPlans s).settings = s.settings ∧
      (State.emptyPlans s).queue.slots.length = s.queue.slots.length ∧
      (State.emptyPlans s).transport.pos = s.transport.pos := by
  simp [State.emptyPlans]

@[simp] theorem State.closeGate_frame (s : State) :
      (State.closeGate s).link = s.link ∧
      (State.closeGate s).att = s.att ∧
      (State.closeGate s).medium = s.medium ∧
      (State.closeGate s).transport = s.transport ∧
      (State.closeGate s).queue = s.queue ∧
      (State.closeGate s).engine = s.engine ∧
      (State.closeGate s).port = s.port ∧
      (State.closeGate s).writer = s.writer ∧
      (State.closeGate s).reader = s.reader ∧
      (State.closeGate s).catalog = s.catalog ∧
      (State.closeGate s).gov = s.gov ∧
      (State.closeGate s).head = s.head ∧
      (State.closeGate s).pending = s.pending ∧
      (State.closeGate s).settings = s.settings := by
  simp [State.closeGate]

@[simp] theorem State.syncPending_frame (s : State) :
      (State.syncPending s).link = s.link ∧
      (State.syncPending s).att = s.att ∧
      (State.syncPending s).medium = s.medium ∧
      (State.syncPending s).tape = s.tape ∧
      (State.syncPending s).queue = s.queue ∧
      (State.syncPending s).engine = s.engine ∧
      (State.syncPending s).port = s.port ∧
      (State.syncPending s).writer = s.writer ∧
      (State.syncPending s).reader = s.reader ∧
      (State.syncPending s).catalog = s.catalog ∧
      (State.syncPending s).gov = s.gov ∧
      (State.syncPending s).head = s.head ∧
      (State.syncPending s).pending = s.pending ∧
      (State.syncPending s).settings = s.settings ∧
      (State.syncPending s).transport.pos = s.transport.pos := by
  unfold State.syncPending; dsimp only; repeat' split
  all_goals simp

@[simp] theorem State.quickStop_step (s : State) : s.quickStop.step = s.gov.step := by
  unfold State.quickStop; split <;> rfl

@[simp] theorem State.demandStop_frame (s : State) (resume : Option SegAddr) :
      (State.demandStop s resume).link = s.link ∧
      (State.demandStop s resume).att = s.att ∧
      (State.demandStop s resume).medium = s.medium ∧
      (State.demandStop s resume).tape = s.tape ∧
      (State.demandStop s resume).queue = s.queue ∧
      (State.demandStop s resume).engine = s.engine ∧
      (State.demandStop s resume).port = s.port ∧
      (State.demandStop s resume).writer = s.writer ∧
      (State.demandStop s resume).reader = s.reader ∧
      (State.demandStop s resume).catalog = s.catalog ∧
      (State.demandStop s resume).head = s.head ∧
      (State.demandStop s resume).pending = s.pending ∧
      (State.demandStop s resume).settings = s.settings ∧
      (State.demandStop s resume).gov.step = s.gov.step ∧
      (State.demandStop s resume).transport.pos = s.transport.pos := by
  unfold State.demandStop; dsimp only; repeat' split
  all_goals simp

/-- A controlled stop demanded where neither a stream nor a turnaround is under way is none (log 90). -/
theorem State.demandStop_elsewhere (s : State) (resume : Option SegAddr) (h : s.transport.state ≠ .streaming)
    (g : s.transport.state ≠ .turnaround) : s.demandStop resume = s := by
  unfold State.demandStop; split <;> simp_all

@[simp] theorem State.demandHalt_frame (s : State) :
      (State.demandHalt s).link = s.link ∧
      (State.demandHalt s).att = s.att ∧
      (State.demandHalt s).medium = s.medium ∧
      (State.demandHalt s).tape = s.tape ∧
      (State.demandHalt s).queue = s.queue ∧
      (State.demandHalt s).engine = s.engine ∧
      (State.demandHalt s).port = s.port ∧
      (State.demandHalt s).writer = s.writer ∧
      (State.demandHalt s).reader = s.reader ∧
      (State.demandHalt s).catalog = s.catalog ∧
      (State.demandHalt s).head = s.head ∧
      (State.demandHalt s).pending = s.pending ∧
      (State.demandHalt s).settings = s.settings ∧
      (State.demandHalt s).gov.step = s.gov.step ∧
      (State.demandHalt s).transport.pos = s.transport.pos := by
  unfold State.demandHalt; dsimp only; repeat' split
  all_goals simp

@[simp] theorem State.immediateStop_frame (s : State) :
      (State.immediateStop s).link = s.link ∧
      (State.immediateStop s).att = s.att ∧
      (State.immediateStop s).medium = s.medium ∧
      (State.immediateStop s).engine = s.engine ∧
      (State.immediateStop s).port = s.port ∧
      (State.immediateStop s).writer = s.writer ∧
      (State.immediateStop s).reader = s.reader ∧
      (State.immediateStop s).catalog = s.catalog ∧
      (State.immediateStop s).gov = s.gov ∧
      (State.immediateStop s).head = s.head ∧
      (State.immediateStop s).pending = s.pending ∧
      (State.immediateStop s).settings = s.settings ∧
      (State.immediateStop s).queue.slots.length = s.queue.slots.length ∧
      (State.immediateStop s).transport.pos = s.transport.pos := by
  unfold State.immediateStop; split <;> simp

@[simp] theorem State.startStream_frame (s : State) (o : Owner) (t : SegAddr) :
      (State.startStream s o t).link = s.link ∧
      (State.startStream s o t).att = s.att ∧
      (State.startStream s o t).medium = s.medium ∧
      (State.startStream s o t).tape = s.tape ∧
      (State.startStream s o t).queue = s.queue ∧
      (State.startStream s o t).engine = s.engine ∧
      (State.startStream s o t).port = s.port ∧
      (State.startStream s o t).writer = s.writer ∧
      (State.startStream s o t).reader = s.reader ∧
      (State.startStream s o t).catalog = s.catalog ∧
      (State.startStream s o t).head = s.head ∧
      (State.startStream s o t).pending = s.pending ∧
      (State.startStream s o t).settings = s.settings ∧
      (State.startStream s o t).gov.step = s.gov.step ∧
      (State.startStream s o t).transport.pos = s.transport.pos := by
  unfold State.startStream; split <;> simp

@[simp] theorem State.startTravel_frame (s : State) (req : MotionReq) :
      (State.startTravel s req).link = s.link ∧
      (State.startTravel s req).att = s.att ∧
      (State.startTravel s req).medium = s.medium ∧
      (State.startTravel s req).tape = s.tape ∧
      (State.startTravel s req).queue = s.queue ∧
      (State.startTravel s req).engine = s.engine ∧
      (State.startTravel s req).port = s.port ∧
      (State.startTravel s req).writer = s.writer ∧
      (State.startTravel s req).reader = s.reader ∧
      (State.startTravel s req).catalog = s.catalog ∧
      (State.startTravel s req).gov = s.gov ∧
      (State.startTravel s req).head = s.head ∧
      (State.startTravel s req).pending = s.pending ∧
      (State.startTravel s req).settings = s.settings ∧
      (State.startTravel s req).transport.pos = s.transport.pos := by
  simp [State.startTravel]

@[simp] theorem State.startRewind_frame (s : State) (req : MotionReq) :
      (State.startRewind s req).link = s.link ∧
      (State.startRewind s req).att = s.att ∧
      (State.startRewind s req).medium = s.medium ∧
      (State.startRewind s req).tape = s.tape ∧
      (State.startRewind s req).queue = s.queue ∧
      (State.startRewind s req).engine = s.engine ∧
      (State.startRewind s req).port = s.port ∧
      (State.startRewind s req).writer = s.writer ∧
      (State.startRewind s req).reader = s.reader ∧
      (State.startRewind s req).catalog = s.catalog ∧
      (State.startRewind s req).gov = s.gov ∧
      (State.startRewind s req).head = s.head ∧
      (State.startRewind s req).pending = s.pending ∧
      (State.startRewind s req).settings = s.settings ∧
      (State.startRewind s req).transport.pos = s.transport.pos := by
  simp [State.startRewind]

@[simp] theorem State.beginKnown_frame (s : State) (req : MotionReq) :
      (State.beginKnown s req).link = s.link ∧
      (State.beginKnown s req).att = s.att ∧
      (State.beginKnown s req).medium = s.medium ∧
      (State.beginKnown s req).tape = s.tape ∧
      (State.beginKnown s req).queue = s.queue ∧
      (State.beginKnown s req).engine = s.engine ∧
      (State.beginKnown s req).port = s.port ∧
      (State.beginKnown s req).writer = s.writer ∧
      (State.beginKnown s req).reader = s.reader ∧
      (State.beginKnown s req).catalog = s.catalog ∧
      (State.beginKnown s req).head = s.head ∧
      (State.beginKnown s req).pending = s.pending ∧
      (State.beginKnown s req).settings = s.settings ∧
      (State.beginKnown s req).gov.step = s.gov.step ∧
      (State.beginKnown s req).transport.pos = s.transport.pos := by
  simp only [State.beginKnown]; repeat' split
  all_goals simp

@[simp] theorem State.beginMotion_frame (s : State) (req : MotionReq) :
      (State.beginMotion s req).link = s.link ∧
      (State.beginMotion s req).att = s.att ∧
      (State.beginMotion s req).medium = s.medium ∧
      (State.beginMotion s req).tape = s.tape ∧
      (State.beginMotion s req).queue = s.queue ∧
      (State.beginMotion s req).engine = s.engine ∧
      (State.beginMotion s req).port = s.port ∧
      (State.beginMotion s req).writer = s.writer ∧
      (State.beginMotion s req).reader = s.reader ∧
      (State.beginMotion s req).catalog = s.catalog ∧
      (State.beginMotion s req).head = s.head ∧
      (State.beginMotion s req).pending = s.pending ∧
      (State.beginMotion s req).settings = s.settings ∧
      (State.beginMotion s req).gov.step = s.gov.step ∧
      (State.beginMotion s req).transport.pos = s.transport.pos := by
  simp only [State.beginMotion]; repeat' split
  all_goals simp

@[simp] theorem State.requestMotion_frame (s : State) (req : MotionReq) :
      (State.requestMotion s req).link = s.link ∧
      (State.requestMotion s req).att = s.att ∧
      (State.requestMotion s req).medium = s.medium ∧
      (State.requestMotion s req).tape = s.tape ∧
      (State.requestMotion s req).queue = s.queue ∧
      (State.requestMotion s req).engine = s.engine ∧
      (State.requestMotion s req).port = s.port ∧
      (State.requestMotion s req).writer = s.writer ∧
      (State.requestMotion s req).reader = s.reader ∧
      (State.requestMotion s req).catalog = s.catalog ∧
      (State.requestMotion s req).head = s.head ∧
      (State.requestMotion s req).pending = s.pending ∧
      (State.requestMotion s req).settings = s.settings ∧
      (State.requestMotion s req).gov.step = s.gov.step ∧
      (State.requestMotion s req).transport.pos = s.transport.pos := by
  unfold State.requestMotion; dsimp only; repeat' split
  all_goals simp

/-- A motion request taken in LOCATING waits for rest and changes nothing else (log 86). -/
theorem State.requestMotion_locating (s : State) (req : MotionReq) (h : s.transport.state = .locating) :
    s.requestMotion req = { s with transport := { s.transport with deferred := some req } } := by
  simp only [State.requestMotion, h]

@[simp] theorem State.comeToRest_frame (s : State) :
      (State.comeToRest s).link = s.link ∧
      (State.comeToRest s).att = s.att ∧
      (State.comeToRest s).medium = s.medium ∧
      (State.comeToRest s).queue = s.queue ∧
      (State.comeToRest s).engine = s.engine ∧
      (State.comeToRest s).port = s.port ∧
      (State.comeToRest s).writer = s.writer ∧
      (State.comeToRest s).reader = s.reader ∧
      (State.comeToRest s).catalog = s.catalog ∧
      (State.comeToRest s).head = s.head ∧
      (State.comeToRest s).pending = s.pending ∧
      (State.comeToRest s).settings = s.settings ∧
      (State.comeToRest s).gov.step = s.gov.step ∧
      (State.comeToRest s).transport.pos = s.transport.pos := by
  unfold State.comeToRest; dsimp only; repeat' split
  all_goals simp

@[simp] theorem State.park_frame (s : State) :
      (State.park s).link = s.link ∧
      (State.park s).att = s.att ∧
      (State.park s).medium = s.medium ∧
      (State.park s).engine = s.engine ∧
      (State.park s).port = s.port ∧
      (State.park s).writer = s.writer ∧
      (State.park s).reader = s.reader ∧
      (State.park s).catalog = s.catalog ∧
      (State.park s).gov = s.gov ∧
      (State.park s).head = s.head ∧
      (State.park s).pending = s.pending ∧
      (State.park s).settings = s.settings ∧
      (State.park s).queue.slots.length = s.queue.slots.length ∧
      (State.park s).transport.pos = s.transport.pos := by
  simp [State.park]

@[simp] theorem State.threadMotion_frame (s : State) :
      (State.threadMotion s).link = s.link ∧
      (State.threadMotion s).att = s.att ∧
      (State.threadMotion s).medium = s.medium ∧
      (State.threadMotion s).engine = s.engine ∧
      (State.threadMotion s).port = s.port ∧
      (State.threadMotion s).writer = s.writer ∧
      (State.threadMotion s).reader = s.reader ∧
      (State.threadMotion s).catalog = s.catalog ∧
      (State.threadMotion s).gov = s.gov ∧
      (State.threadMotion s).head = s.head ∧
      (State.threadMotion s).pending = s.pending ∧
      (State.threadMotion s).settings = s.settings ∧
      (State.threadMotion s).queue.slots.length = s.queue.slots.length ∧
      (State.threadMotion s).transport.pos = s.transport.pos := by
  simp [State.threadMotion]

/-! ### What the small updates write -/

@[simp] theorem State.respond_link (s : State) (tag : Byte) (code : Code) (payload : Payload) :
    (s.respond tag code payload).link =
      { s.link with queue := s.link.queue ++ [{ tag := tag, code := code, payload := payload }] } := rfl

@[simp] theorem State.setMediumPhase_medium (s : State) (p : MediumPhase) :
    (s.setMediumPhase p).medium = { s.medium with phase := p } := rfl

@[simp] theorem State.setPhase_link (s : State) (p : OpPhase) :
    (s.setPhase p).link = { s.link with outstanding := s.link.outstanding.map fun o => { o with phase := p } } := rfl

@[simp] theorem State.closeGate_tape (s : State) :
    s.closeGate.tape =
      { s.tape with gate := false, writing := none, erase := false, underrun := false, served := 0, lost := [] } := rfl

@[simp] theorem State.raise_att (s : State) (k : Kind) : (s.raise k).att = s.att.raise k := rfl

@[simp] theorem State.raiseIf_true (s : State) (k : Kind) : s.raiseIf true k = s.raise k := rfl

@[simp] theorem State.raiseIf_false (s : State) (k : Kind) : s.raiseIf false k = s := rfl

@[simp] theorem State.setSlots_queue (s : State) (slots : List Slot) :
    (s.setSlots slots).queue = { s.queue with slots := slots } := rfl

@[simp] theorem State.modifySlot_queue (s : State) (i : Nat) (f : Slot → Slot) :
    (s.modifySlot i f).queue = { s.queue with slots := s.queue.slots.modify i f } := rfl

@[simp] theorem State.enterMedium_state (s : State) (m : MediumState) :
    (s.enterMedium m).medium = { s.medium with state := m } := by
  unfold State.enterMedium State.raiseIf; split <;> rfl

@[simp] theorem State.enterMedium_att (s : State) (m : MediumState) :
    (s.enterMedium m).att = if m.announced then s.att.raise .mediumChange else s.att := by
  unfold State.enterMedium State.raiseIf; split <;> rfl

/-- The Transport State entered, its tension and what its entry does to the synthesizer, the relax timer and position
known (R67, R68, R70, R84, R85). -/
theorem State.enterTransport_fields (s : State) (t : TransportState) :
    (s.enterTransport t).transport.state = t ∧ (s.enterTransport t).transport.tension = t.tension ∧
    (s.enterTransport t).transport.relaxTimer = (t == TransportState.stopped) ∧
    (s.enterTransport t).transport.motion = s.transport.motion ∧
    (s.enterTransport t).transport.stop = s.transport.stop ∧
    (s.enterTransport t).transport.deferred = s.transport.deferred ∧
    (s.enterTransport t).transport.standby = s.transport.standby ∧
    (s.enterTransport t).transport.step = s.transport.step := ⟨rfl, rfl, rfl, rfl, rfl, rfl, rfl, rfl⟩

/-- Both duties are driven within 0 to 1,000 per mille (R68). -/
theorem State.setTension_duties (s : State) (t : Tension) :
    (s.setTension t).transport.dutyS ≤ 1000 ∧ (s.setTension t).transport.dutyT ≤ 1000 := by
  have h (n : Nat) : clamp 0 1000 n ≤ 1000 := by unfold clamp; split <;> (try split) <;> omega
  cases t <;> simp [State.setTension, h]

end Sys2Proof.Machine
end

