-- ==== Sys2Proof/Laws/FramesFlow.lean ====
section
/-! SUPPORT. What the shared operations of the catalog, the engine, the write and read controllers and the scanner leave as it was. -/

namespace Sys2Proof.Machine

/-! ### Operations of Machine/CatalogOps.lean -/

@[simp] theorem State.raiseOverlap_frame (s : State) :
      (State.raiseOverlap s).link = s.link ∧
      (State.raiseOverlap s).medium = s.medium ∧
      (State.raiseOverlap s).transport = s.transport ∧
      (State.raiseOverlap s).tape = s.tape ∧
      (State.raiseOverlap s).queue = s.queue ∧
      (State.raiseOverlap s).engine = s.engine ∧
      (State.raiseOverlap s).port = s.port ∧
      (State.raiseOverlap s).writer = s.writer ∧
      (State.raiseOverlap s).catalog = s.catalog ∧
      (State.raiseOverlap s).gov = s.gov ∧
      (State.raiseOverlap s).head = s.head ∧
      (State.raiseOverlap s).pending = s.pending ∧
      (State.raiseOverlap s).settings = s.settings := by
  unfold State.raiseOverlap; split <;> simp

@[simp] theorem State.losePosition_frame (s : State) :
      (State.losePosition s).link = s.link ∧
      (State.losePosition s).att = s.att ∧
      (State.losePosition s).medium = s.medium ∧
      (State.losePosition s).transport = s.transport ∧
      (State.losePosition s).tape = s.tape ∧
      (State.losePosition s).queue = s.queue ∧
      (State.losePosition s).engine = s.engine ∧
      (State.losePosition s).port = s.port ∧
      (State.losePosition s).writer = s.writer ∧
      (State.losePosition s).reader = s.reader ∧
      (State.losePosition s).gov = s.gov ∧
      (State.losePosition s).head = s.head ∧
      (State.losePosition s).pending = s.pending ∧
      (State.losePosition s).settings = s.settings := by
  simp [State.losePosition]

/-! ### Operations of Machine/EngineOps.lean -/

@[simp] theorem State.runEngine_frame (s : State) :
      (State.runEngine s).link = s.link ∧
      (State.runEngine s).att = s.att ∧
      (State.runEngine s).medium = s.medium ∧
      (State.runEngine s).transport = s.transport ∧
      (State.runEngine s).tape = s.tape ∧
      (State.runEngine s).queue = s.queue ∧
      (State.runEngine s).port = s.port ∧
      (State.runEngine s).writer = s.writer ∧
      (State.runEngine s).reader = s.reader ∧
      (State.runEngine s).catalog = s.catalog ∧
      (State.runEngine s).gov = s.gov ∧
      (State.runEngine s).head = s.head ∧
      (State.runEngine s).pending = s.pending ∧
      (State.runEngine s).settings = s.settings := by
  simp [State.runEngine]

@[simp] theorem State.closeFilling_frame (s : State) :
      (State.closeFilling s).link = s.link ∧
      (State.closeFilling s).att = s.att ∧
      (State.closeFilling s).medium = s.medium ∧
      (State.closeFilling s).transport = s.transport ∧
      (State.closeFilling s).tape = s.tape ∧
      (State.closeFilling s).engine = s.engine ∧
      (State.closeFilling s).port = s.port ∧
      (State.closeFilling s).writer = s.writer ∧
      (State.closeFilling s).reader = s.reader ∧
      (State.closeFilling s).catalog = s.catalog ∧
      (State.closeFilling s).gov = s.gov ∧
      (State.closeFilling s).head = s.head ∧
      (State.closeFilling s).pending = s.pending ∧
      (State.closeFilling s).settings = s.settings ∧
      (State.closeFilling s).queue.slots.length = s.queue.slots.length := by
  unfold State.closeFilling; split <;> simp

theorem State.openFilling_frame (s : State) (block : Nat) (p : State) (h : s.openFilling block = some p) :
      p.link = s.link ∧
      p.att = s.att ∧
      p.medium = s.medium ∧
      p.transport = s.transport ∧
      p.tape = s.tape ∧
      p.engine = s.engine ∧
      p.port = s.port ∧
      p.reader = s.reader ∧
      p.gov = s.gov ∧
      p.head = s.head ∧
      p.pending = s.pending ∧
      p.settings = s.settings ∧
      p.queue.slots.length = s.queue.slots.length := by
  unfold State.openFilling at h
  cases hf : s.lowestFree with
  | none => simp [hf] at h
  | some i =>
    simp [hf] at h
    obtain ⟨_, -, rfl⟩ := h
    simp

@[simp] theorem State.placeBytes_frame (s : State) (i : Nat) (bytes : List Byte) (withHeader isMarker : Bool) :
      (State.placeBytes s i bytes withHeader isMarker).link = s.link ∧
      (State.placeBytes s i bytes withHeader isMarker).att = s.att ∧
      (State.placeBytes s i bytes withHeader isMarker).medium = s.medium ∧
      (State.placeBytes s i bytes withHeader isMarker).transport = s.transport ∧
      (State.placeBytes s i bytes withHeader isMarker).tape = s.tape ∧
      (State.placeBytes s i bytes withHeader isMarker).port = s.port ∧
      (State.placeBytes s i bytes withHeader isMarker).writer = s.writer ∧
      (State.placeBytes s i bytes withHeader isMarker).reader = s.reader ∧
      (State.placeBytes s i bytes withHeader isMarker).catalog = s.catalog ∧
      (State.placeBytes s i bytes withHeader isMarker).gov = s.gov ∧
      (State.placeBytes s i bytes withHeader isMarker).head = s.head ∧
      (State.placeBytes s i bytes withHeader isMarker).pending = s.pending ∧
      (State.placeBytes s i bytes withHeader isMarker).settings = s.settings ∧
      (State.placeBytes s i bytes withHeader isMarker).queue.slots.length = s.queue.slots.length := by
  simp [State.placeBytes]

@[simp] theorem State.placeRun_frame (fuel : Nat) (s : State) :
      (State.placeRun fuel s).link = s.link ∧
      (State.placeRun fuel s).att = s.att ∧
      (State.placeRun fuel s).medium = s.medium ∧
      (State.placeRun fuel s).transport = s.transport ∧
      (State.placeRun fuel s).tape = s.tape ∧
      (State.placeRun fuel s).port = s.port ∧
      (State.placeRun fuel s).reader = s.reader ∧
      (State.placeRun fuel s).gov = s.gov ∧
      (State.placeRun fuel s).head = s.head ∧
      (State.placeRun fuel s).pending = s.pending ∧
      (State.placeRun fuel s).settings = s.settings ∧
      (State.placeRun fuel s).queue.slots.length = s.queue.slots.length := by
  induction fuel generalizing s with
  | zero => simp [State.placeRun]
  | succ n ih =>
    unfold State.placeRun
    split
    · simp
    · split
      · simp
      · split
        · split
          · simp
          · next h => simp [ih, State.openFilling_frame _ _ _ h]
        · dsimp only
          split
          · simp [ih]
          · split <;> simp [ih]

@[simp] theorem State.addEnding_frame (s : State) (b : BlockRecord) :
      (State.addEnding s b).link = s.link ∧
      (State.addEnding s b).att = s.att ∧
      (State.addEnding s b).medium = s.medium ∧
      (State.addEnding s b).transport = s.transport ∧
      (State.addEnding s b).tape = s.tape ∧
      (State.addEnding s b).engine = s.engine ∧
      (State.addEnding s b).port = s.port ∧
      (State.addEnding s b).writer = s.writer ∧
      (State.addEnding s b).reader = s.reader ∧
      (State.addEnding s b).catalog = s.catalog ∧
      (State.addEnding s b).gov = s.gov ∧
      (State.addEnding s b).head = s.head ∧
      (State.addEnding s b).pending = s.pending ∧
      (State.addEnding s b).settings = s.settings ∧
      (State.addEnding s b).queue.slots.length = s.queue.slots.length := by
  unfold State.addEnding; split <;> simp

@[simp] theorem State.acceptBlock_frame (s : State) (b : BlockRecord) :
      (State.acceptBlock s b).link = s.link ∧
      (State.acceptBlock s b).att = s.att ∧
      (State.acceptBlock s b).medium = s.medium ∧
      (State.acceptBlock s b).transport = s.transport ∧
      (State.acceptBlock s b).tape = s.tape ∧
      (State.acceptBlock s b).port = s.port ∧
      (State.acceptBlock s b).reader = s.reader ∧
      (State.acceptBlock s b).gov = s.gov ∧
      (State.acceptBlock s b).head = s.head ∧
      (State.acceptBlock s b).pending = s.pending ∧
      (State.acceptBlock s b).settings = s.settings ∧
      (State.acceptBlock s b).queue.slots.length = s.queue.slots.length := by
  simp [State.acceptBlock]

@[simp] theorem State.emptyStages_frame (s : State) :
      (State.emptyStages s).link = s.link ∧
      (State.emptyStages s).att = s.att ∧
      (State.emptyStages s).medium = s.medium ∧
      (State.emptyStages s).transport = s.transport ∧
      (State.emptyStages s).tape = s.tape ∧
      (State.emptyStages s).queue = s.queue ∧
      (State.emptyStages s).writer = s.writer ∧
      (State.emptyStages s).reader = s.reader ∧
      (State.emptyStages s).catalog = s.catalog ∧
      (State.emptyStages s).gov = s.gov ∧
      (State.emptyStages s).head = s.head ∧
      (State.emptyStages s).pending = s.pending ∧
      (State.emptyStages s).settings = s.settings := by
  simp [State.emptyStages]

/-! ### Operations of Machine/WriteOps.lean -/

@[simp] theorem State.evaluateWarning_frame (s : State) :
      (State.evaluateWarning s).link = s.link ∧
      (State.evaluateWarning s).medium = s.medium ∧
      (State.evaluateWarning s).transport = s.transport ∧
      (State.evaluateWarning s).tape = s.tape ∧
      (State.evaluateWarning s).queue = s.queue ∧
      (State.evaluateWarning s).engine = s.engine ∧
      (State.evaluateWarning s).port = s.port ∧
      (State.evaluateWarning s).reader = s.reader ∧
      (State.evaluateWarning s).catalog = s.catalog ∧
      (State.evaluateWarning s).gov = s.gov ∧
      (State.evaluateWarning s).head = s.head ∧
      (State.evaluateWarning s).pending = s.pending ∧
      (State.evaluateWarning s).settings = s.settings := by
  unfold State.evaluateWarning; split <;> simp

@[simp] theorem State.endWrite_frame (s : State) (code : Code) (report : Option FaultReport) :
      (State.endWrite s code report).att = s.att ∧
      (State.endWrite s code report).medium = s.medium ∧
      (State.endWrite s code report).transport = s.transport ∧
      (State.endWrite s code report).tape = s.tape ∧
      (State.endWrite s code report).queue = s.queue ∧
      (State.endWrite s code report).engine = s.engine ∧
      (State.endWrite s code report).reader = s.reader ∧
      (State.endWrite s code report).catalog = s.catalog ∧
      (State.endWrite s code report).gov = s.gov ∧
      (State.endWrite s code report).head = s.head ∧
      (State.endWrite s code report).pending = s.pending ∧
      (State.endWrite s code report).settings = s.settings := by
  simp [State.endWrite]

@[simp] theorem State.afterAcceptance_frame (s : State) :
      (State.afterAcceptance s).medium = s.medium ∧
      (State.afterAcceptance s).transport = s.transport ∧
      (State.afterAcceptance s).tape = s.tape ∧
      (State.afterAcceptance s).queue = s.queue ∧
      (State.afterAcceptance s).reader = s.reader ∧
      (State.afterAcceptance s).catalog = s.catalog ∧
      (State.afterAcceptance s).gov = s.gov ∧
      (State.afterAcceptance s).head = s.head ∧
      (State.afterAcceptance s).pending = s.pending ∧
      (State.afterAcceptance s).settings = s.settings := by
  unfold State.afterAcceptance; dsimp only; repeat' split
  all_goals simp

@[simp] theorem State.acceptPlaced_frame (s : State) :
      (State.acceptPlaced s).medium = s.medium ∧
      (State.acceptPlaced s).transport = s.transport ∧
      (State.acceptPlaced s).tape = s.tape ∧
      (State.acceptPlaced s).reader = s.reader ∧
      (State.acceptPlaced s).gov = s.gov ∧
      (State.acceptPlaced s).head = s.head ∧
      (State.acceptPlaced s).pending = s.pending ∧
      (State.acceptPlaced s).settings = s.settings ∧
      (State.acceptPlaced s).queue.slots.length = s.queue.slots.length := by
  simp only [State.acceptPlaced]; repeat' split
  all_goals simp

@[simp] theorem State.discard_frame (s : State) (n : Nat) :
      (State.discard s n).link = s.link ∧
      (State.discard s n).att = s.att ∧
      (State.discard s n).medium = s.medium ∧
      (State.discard s n).tape = s.tape ∧
      (State.discard s n).writer = s.writer ∧
      (State.discard s n).reader = s.reader ∧
      (State.discard s n).gov = s.gov ∧
      (State.discard s n).head = s.head ∧
      (State.discard s n).pending = s.pending ∧
      (State.discard s n).settings = s.settings ∧
      (State.discard s n).queue.slots.length = s.queue.slots.length ∧
      (State.discard s n).transport.pos = s.transport.pos := by
  simp [State.discard]

@[simp] theorem State.sessionFault_frame (s : State) (code : Code) (point : Nat) (ended : Bool) :
      (State.sessionFault s code point ended).att = s.att ∧
      (State.sessionFault s code point ended).medium = s.medium ∧
      (State.sessionFault s code point ended).tape = s.tape ∧
      (State.sessionFault s code point ended).reader = s.reader ∧
      (State.sessionFault s code point ended).gov = s.gov ∧
      (State.sessionFault s code point ended).head = s.head ∧
      (State.sessionFault s code point ended).pending = s.pending ∧
      (State.sessionFault s code point ended).settings = s.settings ∧
      (State.sessionFault s code point ended).queue.slots.length = s.queue.slots.length ∧
      (State.sessionFault s code point ended).transport.pos = s.transport.pos := by
  unfold State.sessionFault; dsimp only; repeat' split
  all_goals simp

@[simp] theorem State.lowerPoint_frame (s : State) :
      (State.lowerPoint s).link = s.link ∧
      (State.lowerPoint s).att = s.att ∧
      (State.lowerPoint s).medium = s.medium ∧
      (State.lowerPoint s).tape = s.tape ∧
      (State.lowerPoint s).reader = s.reader ∧
      (State.lowerPoint s).gov = s.gov ∧
      (State.lowerPoint s).head = s.head ∧
      (State.lowerPoint s).pending = s.pending ∧
      (State.lowerPoint s).settings = s.settings ∧
      (State.lowerPoint s).queue.slots.length = s.queue.slots.length ∧
      (State.lowerPoint s).transport.pos = s.transport.pos := by
  unfold State.lowerPoint; dsimp only; repeat' split
  all_goals simp

@[simp] theorem State.closeSession_frame (s : State) :
      (State.closeSession s).link = s.link ∧
      (State.closeSession s).att = s.att ∧
      (State.closeSession s).medium = s.medium ∧
      (State.closeSession s).tape = s.tape ∧
      (State.closeSession s).reader = s.reader ∧
      (State.closeSession s).head = s.head ∧
      (State.closeSession s).pending = s.pending ∧
      (State.closeSession s).settings = s.settings ∧
      (State.closeSession s).queue.slots.length = s.queue.slots.length ∧
      (State.closeSession s).gov.step = s.gov.step ∧
      (State.closeSession s).transport.pos = s.transport.pos := by
  unfold State.closeSession; split <;> simp

@[simp] theorem State.currentToEnd_frame (s : State) :
      (State.currentToEnd s).link = s.link ∧
      (State.currentToEnd s).att = s.att ∧
      (State.currentToEnd s).medium = s.medium ∧
      (State.currentToEnd s).transport = s.transport ∧
      (State.currentToEnd s).tape = s.tape ∧
      (State.currentToEnd s).queue = s.queue ∧
      (State.currentToEnd s).engine = s.engine ∧
      (State.currentToEnd s).port = s.port ∧
      (State.currentToEnd s).writer = s.writer ∧
      (State.currentToEnd s).reader = s.reader ∧
      (State.currentToEnd s).gov = s.gov ∧
      (State.currentToEnd s).head = s.head ∧
      (State.currentToEnd s).pending = s.pending ∧
      (State.currentToEnd s).settings = s.settings := by
  simp [State.currentToEnd]

@[simp] theorem State.deliverReport_frame (s : State) (r : FaultReport) :
      (State.deliverReport s r).transport = s.transport ∧
      (State.deliverReport s r).tape = s.tape ∧
      (State.deliverReport s r).queue = s.queue ∧
      (State.deliverReport s r).engine = s.engine ∧
      (State.deliverReport s r).reader = s.reader ∧
      (State.deliverReport s r).catalog = s.catalog ∧
      (State.deliverReport s r).gov = s.gov ∧
      (State.deliverReport s r).head = s.head ∧
      (State.deliverReport s r).pending = s.pending ∧
      (State.deliverReport s r).settings = s.settings := by
  unfold State.deliverReport; split <;> simp

@[simp] theorem State.endFailed_frame (s : State) :
      (State.endFailed s).tape = s.tape ∧
      (State.endFailed s).reader = s.reader ∧
      (State.endFailed s).head = s.head ∧
      (State.endFailed s).pending = s.pending ∧
      (State.endFailed s).settings = s.settings ∧
      (State.endFailed s).queue.slots.length = s.queue.slots.length ∧
      (State.endFailed s).gov.step = s.gov.step ∧
      (State.endFailed s).transport.pos = s.transport.pos := by
  unfold State.endFailed; split <;> simp

@[simp] theorem State.endFlushed_frame (s : State) :
      (State.endFlushed s).att = s.att ∧
      (State.endFlushed s).medium = s.medium ∧
      (State.endFlushed s).tape = s.tape ∧
      (State.endFlushed s).reader = s.reader ∧
      (State.endFlushed s).head = s.head ∧
      (State.endFlushed s).pending = s.pending ∧
      (State.endFlushed s).settings = s.settings ∧
      (State.endFlushed s).queue.slots.length = s.queue.slots.length ∧
      (State.endFlushed s).gov.step = s.gov.step ∧
      (State.endFlushed s).transport.pos = s.transport.pos := by
  unfold State.endFlushed; dsimp only; repeat' split
  all_goals simp

@[simp] theorem State.trySessionEnd_frame (s : State) :
      (State.trySessionEnd s).tape = s.tape ∧
      (State.trySessionEnd s).reader = s.reader ∧
      (State.trySessionEnd s).head = s.head ∧
      (State.trySessionEnd s).pending = s.pending ∧
      (State.trySessionEnd s).settings = s.settings ∧
      (State.trySessionEnd s).queue.slots.length = s.queue.slots.length ∧
      (State.trySessionEnd s).gov.step = s.gov.step ∧
      (State.trySessionEnd s).transport.pos = s.transport.pos := by
  simp only [State.trySessionEnd]; repeat' split
  all_goals simp

@[simp] theorem State.checkNotTaken_frame (s : State) (f : Flight) :
      (State.checkNotTaken s f).att = s.att ∧
      (State.checkNotTaken s f).medium = s.medium ∧
      (State.checkNotTaken s f).tape = s.tape ∧
      (State.checkNotTaken s f).reader = s.reader ∧
      (State.checkNotTaken s f).gov = s.gov ∧
      (State.checkNotTaken s f).head = s.head ∧
      (State.checkNotTaken s f).pending = s.pending ∧
      (State.checkNotTaken s f).settings = s.settings ∧
      (State.checkNotTaken s f).queue.slots.length = s.queue.slots.length ∧
      (State.checkNotTaken s f).transport.pos = s.transport.pos := by
  simp only [State.checkNotTaken]; repeat' split
  all_goals simp

@[simp] theorem State.checksNotTaken_frame (s : State) :
      (State.checksNotTaken s).att = s.att ∧
      (State.checksNotTaken s).medium = s.medium ∧
      (State.checksNotTaken s).reader = s.reader ∧
      (State.checksNotTaken s).gov = s.gov ∧
      (State.checksNotTaken s).head = s.head ∧
      (State.checksNotTaken s).pending = s.pending ∧
      (State.checksNotTaken s).settings = s.settings ∧
      (State.checksNotTaken s).queue.slots.length = s.queue.slots.length ∧
      (State.checksNotTaken s).transport.pos = s.transport.pos := by
  unfold State.checksNotTaken
  have fold : ∀ (fs : List Flight) (t : State),
      (fs.foldl State.checkNotTaken t).att = t.att ∧
      (fs.foldl State.checkNotTaken t).medium = t.medium ∧
      (fs.foldl State.checkNotTaken t).reader = t.reader ∧
      (fs.foldl State.checkNotTaken t).gov = t.gov ∧
      (fs.foldl State.checkNotTaken t).head = t.head ∧
      (fs.foldl State.checkNotTaken t).pending = t.pending ∧
      (fs.foldl State.checkNotTaken t).settings = t.settings ∧
      (fs.foldl State.checkNotTaken t).queue.slots.length = t.queue.slots.length ∧
      (fs.foldl State.checkNotTaken t).transport.pos = t.transport.pos := by
    intro fs
    induction fs with
    | nil => simp
    | cons f fs ih => intro t; simp [ih]
  simp [fold]

@[simp] theorem State.applyVerdict_frame (s : State) (i : Nat) (v : Verdict) (fails : Nat) :
      (State.applyVerdict s i v fails).link = s.link ∧
      (State.applyVerdict s i v fails).att = s.att ∧
      (State.applyVerdict s i v fails).medium = s.medium ∧
      (State.applyVerdict s i v fails).transport = s.transport ∧
      (State.applyVerdict s i v fails).tape = s.tape ∧
      (State.applyVerdict s i v fails).engine = s.engine ∧
      (State.applyVerdict s i v fails).port = s.port ∧
      (State.applyVerdict s i v fails).writer = s.writer ∧
      (State.applyVerdict s i v fails).reader = s.reader ∧
      (State.applyVerdict s i v fails).gov = s.gov ∧
      (State.applyVerdict s i v fails).head = s.head ∧
      (State.applyVerdict s i v fails).pending = s.pending ∧
      (State.applyVerdict s i v fails).settings = s.settings ∧
      (State.applyVerdict s i v fails).queue.slots.length = s.queue.slots.length := by
  unfold State.applyVerdict; dsimp only; repeat' split
  all_goals simp

theorem State.reserveFor_frame (s : State) (copy : Nat) (a : SegAddr) (p : State) (h : s.reserveFor copy a = some p) :
      p.link = s.link ∧
      p.att = s.att ∧
      p.medium = s.medium ∧
      p.transport = s.transport ∧
      p.tape = s.tape ∧
      p.queue = s.queue ∧
      p.engine = s.engine ∧
      p.port = s.port ∧
      p.reader = s.reader ∧
      p.gov = s.gov ∧
      p.head = s.head ∧
      p.pending = s.pending ∧
      p.settings = s.settings := by
  unfold State.reserveFor at h
  split at h
  · cases hf : s.catalog.reserve s.writer.session a.wrap (firstSeg a.wrap) with
    | none => simp [hf] at h
    | some c => simp [hf] at h; subst h; simp
  · simp at h; subst h; simp

@[simp] theorem State.offerWrite_frame (s : State) :
      (State.offerWrite s).att = s.att ∧
      (State.offerWrite s).medium = s.medium ∧
      (State.offerWrite s).tape = s.tape ∧
      (State.offerWrite s).reader = s.reader ∧
      (State.offerWrite s).gov = s.gov ∧
      (State.offerWrite s).head = s.head ∧
      (State.offerWrite s).pending = s.pending ∧
      (State.offerWrite s).settings = s.settings ∧
      (State.offerWrite s).queue.slots.length = s.queue.slots.length ∧
      (State.offerWrite s).transport.pos = s.transport.pos := by
  unfold State.offerWrite
  split
  · simp
  · split
    · simp
    · split
      · dsimp only
        split
        · simp
        · next h => have := State.reserveFor_frame _ _ _ _ h; simp_all
      · simp

@[simp] theorem State.takePending_frame (s : State) :
      (State.takePending s).link = s.link ∧
      (State.takePending s).att = s.att ∧
      (State.takePending s).medium = s.medium ∧
      (State.takePending s).tape = s.tape ∧
      (State.takePending s).queue = s.queue ∧
      (State.takePending s).engine = s.engine ∧
      (State.takePending s).port = s.port ∧
      (State.takePending s).writer = s.writer ∧
      (State.takePending s).reader = s.reader ∧
      (State.takePending s).catalog = s.catalog ∧
      (State.takePending s).gov = s.gov ∧
      (State.takePending s).head = s.head ∧
      (State.takePending s).pending = s.pending ∧
      (State.takePending s).settings = s.settings ∧
      (State.takePending s).transport.pos = s.transport.pos := by
  unfold State.takePending; dsimp only; repeat' split
  all_goals simp

@[simp] theorem State.beginWriting_frame (s : State) (a : SegAddr) :
      (State.beginWriting s a).link = s.link ∧
      (State.beginWriting s a).medium = s.medium ∧
      (State.beginWriting s a).transport = s.transport ∧
      (State.beginWriting s a).engine = s.engine ∧
      (State.beginWriting s a).port = s.port ∧
      (State.beginWriting s a).reader = s.reader ∧
      (State.beginWriting s a).gov = s.gov ∧
      (State.beginWriting s a).head = s.head ∧
      (State.beginWriting s a).pending = s.pending ∧
      (State.beginWriting s a).settings = s.settings ∧
      (State.beginWriting s a).queue.slots.length = s.queue.slots.length := by
  unfold State.beginWriting; dsimp only; repeat' split
  all_goals simp

@[simp] theorem State.copyWritten_frame (s : State) (a : SegAddr) :
      (State.copyWritten s a).link = s.link ∧
      (State.copyWritten s a).medium = s.medium ∧
      (State.copyWritten s a).transport = s.transport ∧
      (State.copyWritten s a).tape = s.tape ∧
      (State.copyWritten s a).queue = s.queue ∧
      (State.copyWritten s a).engine = s.engine ∧
      (State.copyWritten s a).port = s.port ∧
      (State.copyWritten s a).reader = s.reader ∧
      (State.copyWritten s a).gov = s.gov ∧
      (State.copyWritten s a).head = s.head ∧
      (State.copyWritten s a).pending = s.pending ∧
      (State.copyWritten s a).settings = s.settings := by
  unfold State.copyWritten
  simp

@[simp] theorem State.copyCutShort_frame (s : State) :
      (State.copyCutShort s).link = s.link ∧
      (State.copyCutShort s).medium = s.medium ∧
      (State.copyCutShort s).transport = s.transport ∧
      (State.copyCutShort s).tape = s.tape ∧
      (State.copyCutShort s).queue = s.queue ∧
      (State.copyCutShort s).engine = s.engine ∧
      (State.copyCutShort s).port = s.port ∧
      (State.copyCutShort s).reader = s.reader ∧
      (State.copyCutShort s).gov = s.gov ∧
      (State.copyCutShort s).head = s.head ∧
      (State.copyCutShort s).pending = s.pending ∧
      (State.copyCutShort s).settings = s.settings := by
  unfold State.copyCutShort; repeat' split
  all_goals simp

@[simp] theorem State.permanentFailure_frame (s : State) (stripe : Nat) :
      (State.permanentFailure s stripe).medium = s.medium ∧
      (State.permanentFailure s stripe).reader = s.reader ∧
      (State.permanentFailure s stripe).gov = s.gov ∧
      (State.permanentFailure s stripe).head = s.head ∧
      (State.permanentFailure s stripe).pending = s.pending ∧
      (State.permanentFailure s stripe).settings = s.settings ∧
      (State.permanentFailure s stripe).queue.slots.length = s.queue.slots.length ∧
      (State.permanentFailure s stripe).transport.pos = s.transport.pos := by
  simp [State.permanentFailure]

@[simp] theorem State.reportGap_frame (s : State) (a : SegAddr) :
      (State.reportGap s a).link = s.link ∧
      (State.reportGap s a).att = s.att ∧
      (State.reportGap s a).medium = s.medium ∧
      (State.reportGap s a).transport = s.transport ∧
      (State.reportGap s a).tape = s.tape ∧
      (State.reportGap s a).queue = s.queue ∧
      (State.reportGap s a).engine = s.engine ∧
      (State.reportGap s a).port = s.port ∧
      (State.reportGap s a).writer = s.writer ∧
      (State.reportGap s a).reader = s.reader ∧
      (State.reportGap s a).gov = s.gov ∧
      (State.reportGap s a).head = s.head ∧
      (State.reportGap s a).pending = s.pending ∧
      (State.reportGap s a).settings = s.settings := by
  simp [State.reportGap]

@[simp] theorem State.headFaultTest_frame (s : State) :
      (State.headFaultTest s).att = s.att ∧
      (State.headFaultTest s).medium = s.medium ∧
      (State.headFaultTest s).tape = s.tape ∧
      (State.headFaultTest s).reader = s.reader ∧
      (State.headFaultTest s).gov = s.gov ∧
      (State.headFaultTest s).head = s.head ∧
      (State.headFaultTest s).pending = s.pending ∧
      (State.headFaultTest s).settings = s.settings ∧
      (State.headFaultTest s).queue.slots.length = s.queue.slots.length ∧
      (State.headFaultTest s).transport.pos = s.transport.pos := by
  simp only [State.headFaultTest]; repeat' split
  all_goals simp

@[simp] theorem State.writeStopTest_frame (s : State) :
      (State.writeStopTest s).link = s.link ∧
      (State.writeStopTest s).att = s.att ∧
      (State.writeStopTest s).medium = s.medium ∧
      (State.writeStopTest s).tape = s.tape ∧
      (State.writeStopTest s).queue = s.queue ∧
      (State.writeStopTest s).engine = s.engine ∧
      (State.writeStopTest s).port = s.port ∧
      (State.writeStopTest s).writer = s.writer ∧
      (State.writeStopTest s).reader = s.reader ∧
      (State.writeStopTest s).catalog = s.catalog ∧
      (State.writeStopTest s).head = s.head ∧
      (State.writeStopTest s).pending = s.pending ∧
      (State.writeStopTest s).settings = s.settings ∧
      (State.writeStopTest s).gov.step = s.gov.step ∧
      (State.writeStopTest s).transport.pos = s.transport.pos := by
  unfold State.writeStopTest; split <;> simp

@[simp] theorem State.endOfMediumTest_frame (s : State) :
      (State.endOfMediumTest s).att = s.att ∧
      (State.endOfMediumTest s).medium = s.medium ∧
      (State.endOfMediumTest s).tape = s.tape ∧
      (State.endOfMediumTest s).reader = s.reader ∧
      (State.endOfMediumTest s).gov = s.gov ∧
      (State.endOfMediumTest s).head = s.head ∧
      (State.endOfMediumTest s).pending = s.pending ∧
      (State.endOfMediumTest s).settings = s.settings ∧
      (State.endOfMediumTest s).queue.slots.length = s.queue.slots.length ∧
      (State.endOfMediumTest s).transport.pos = s.transport.pos := by
  simp only [State.endOfMediumTest]; repeat' split
  all_goals simp

@[simp] theorem State.numbersSpentTest_frame (s : State) :
      (State.numbersSpentTest s).tape = s.tape ∧
      (State.numbersSpentTest s).reader = s.reader ∧
      (State.numbersSpentTest s).head = s.head ∧
      (State.numbersSpentTest s).pending = s.pending ∧
      (State.numbersSpentTest s).settings = s.settings ∧
      (State.numbersSpentTest s).queue.slots.length = s.queue.slots.length ∧
      (State.numbersSpentTest s).gov.step = s.gov.step ∧
      (State.numbersSpentTest s).transport.pos = s.transport.pos := by
  unfold State.numbersSpentTest; dsimp only; repeat' split
  all_goals simp

@[simp] theorem State.writeMotionFault_frame (s : State) (code : Code) :
      (State.writeMotionFault s code).tape = s.tape ∧
      (State.writeMotionFault s code).reader = s.reader ∧
      (State.writeMotionFault s code).head = s.head ∧
      (State.writeMotionFault s code).pending = s.pending ∧
      (State.writeMotionFault s code).settings = s.settings ∧
      (State.writeMotionFault s code).queue.slots.length = s.queue.slots.length ∧
      (State.writeMotionFault s code).gov.step = s.gov.step ∧
      (State.writeMotionFault s code).transport.pos = s.transport.pos := by
  simp only [State.writeMotionFault]; repeat' split
  all_goals simp

/-! ### Operations of Machine/ReadOps.lean -/

@[simp] theorem State.freeReads_frame (s : State) :
      (State.freeReads s).link = s.link ∧
      (State.freeReads s).att = s.att ∧
      (State.freeReads s).medium = s.medium ∧
      (State.freeReads s).tape = s.tape ∧
      (State.freeReads s).engine = s.engine ∧
      (State.freeReads s).port = s.port ∧
      (State.freeReads s).writer = s.writer ∧
      (State.freeReads s).reader = s.reader ∧
      (State.freeReads s).catalog = s.catalog ∧
      (State.freeReads s).gov = s.gov ∧
      (State.freeReads s).head = s.head ∧
      (State.freeReads s).pending = s.pending ∧
      (State.freeReads s).settings = s.settings ∧
      (State.freeReads s).queue.slots.length = s.queue.slots.length ∧
      (State.freeReads s).transport.pos = s.transport.pos := by
  simp [State.freeReads]

@[simp] theorem State.stopWalk_frame (s : State) :
      (State.stopWalk s).link = s.link ∧
      (State.stopWalk s).att = s.att ∧
      (State.stopWalk s).medium = s.medium ∧
      (State.stopWalk s).transport = s.transport ∧
      (State.stopWalk s).tape = s.tape ∧
      (State.stopWalk s).queue = s.queue ∧
      (State.stopWalk s).port = s.port ∧
      (State.stopWalk s).writer = s.writer ∧
      (State.stopWalk s).reader = s.reader ∧
      (State.stopWalk s).catalog = s.catalog ∧
      (State.stopWalk s).gov = s.gov ∧
      (State.stopWalk s).head = s.head ∧
      (State.stopWalk s).pending = s.pending ∧
      (State.stopWalk s).settings = s.settings := by
  simp [State.stopWalk]

@[simp] theorem State.endReadAhead_frame (s : State) (late : Bool) :
      (State.endReadAhead s late).link = s.link ∧
      (State.endReadAhead s late).att = s.att ∧
      (State.endReadAhead s late).medium = s.medium ∧
      (State.endReadAhead s late).tape = s.tape ∧
      (State.endReadAhead s late).port = s.port ∧
      (State.endReadAhead s late).writer = s.writer ∧
      (State.endReadAhead s late).catalog = s.catalog ∧
      (State.endReadAhead s late).head = s.head ∧
      (State.endReadAhead s late).pending = s.pending ∧
      (State.endReadAhead s late).settings = s.settings ∧
      (State.endReadAhead s late).queue.slots.length = s.queue.slots.length ∧
      (State.endReadAhead s late).gov.step = s.gov.step ∧
      (State.endReadAhead s late).transport.pos = s.transport.pos := by
  unfold State.endReadAhead; dsimp only; repeat' split
  all_goals simp

@[simp] theorem State.dropReadAhead_frame (s : State) :
      (State.dropReadAhead s).link = s.link ∧
      (State.dropReadAhead s).att = s.att ∧
      (State.dropReadAhead s).medium = s.medium ∧
      (State.dropReadAhead s).tape = s.tape ∧
      (State.dropReadAhead s).port = s.port ∧
      (State.dropReadAhead s).writer = s.writer ∧
      (State.dropReadAhead s).catalog = s.catalog ∧
      (State.dropReadAhead s).head = s.head ∧
      (State.dropReadAhead s).pending = s.pending ∧
      (State.dropReadAhead s).settings = s.settings ∧
      (State.dropReadAhead s).queue.slots.length = s.queue.slots.length ∧
      (State.dropReadAhead s).gov.step = s.gov.step ∧
      (State.dropReadAhead s).transport.pos = s.transport.pos := by
  unfold State.dropReadAhead; split <;> simp

@[simp] theorem State.openSearches_frame (s : State) (n : Nat) (a : SegAddr) (headerOnly : Bool) :
      (State.openSearches s n a headerOnly).link = s.link ∧
      (State.openSearches s n a headerOnly).att = s.att ∧
      (State.openSearches s n a headerOnly).medium = s.medium ∧
      (State.openSearches s n a headerOnly).transport = s.transport ∧
      (State.openSearches s n a headerOnly).tape = s.tape ∧
      (State.openSearches s n a headerOnly).queue = s.queue ∧
      (State.openSearches s n a headerOnly).engine = s.engine ∧
      (State.openSearches s n a headerOnly).port = s.port ∧
      (State.openSearches s n a headerOnly).writer = s.writer ∧
      (State.openSearches s n a headerOnly).catalog = s.catalog ∧
      (State.openSearches s n a headerOnly).gov = s.gov ∧
      (State.openSearches s n a headerOnly).head = s.head ∧
      (State.openSearches s n a headerOnly).pending = s.pending ∧
      (State.openSearches s n a headerOnly).settings = s.settings := by
  simp [State.openSearches]

@[simp] theorem State.countSegment_frame (s : State) (a : SegAddr) :
      (State.countSegment s a).link = s.link ∧
      (State.countSegment s a).att = s.att ∧
      (State.countSegment s a).medium = s.medium ∧
      (State.countSegment s a).transport = s.transport ∧
      (State.countSegment s a).tape = s.tape ∧
      (State.countSegment s a).queue = s.queue ∧
      (State.countSegment s a).engine = s.engine ∧
      (State.countSegment s a).port = s.port ∧
      (State.countSegment s a).writer = s.writer ∧
      (State.countSegment s a).catalog = s.catalog ∧
      (State.countSegment s a).gov = s.gov ∧
      (State.countSegment s a).head = s.head ∧
      (State.countSegment s a).pending = s.pending ∧
      (State.countSegment s a).settings = s.settings := by
  simp [State.countSegment]

@[simp] theorem State.expireSearches_frame (s : State) :
      (State.expireSearches s).link = s.link ∧
      (State.expireSearches s).att = s.att ∧
      (State.expireSearches s).medium = s.medium ∧
      (State.expireSearches s).transport = s.transport ∧
      (State.expireSearches s).tape = s.tape ∧
      (State.expireSearches s).queue = s.queue ∧
      (State.expireSearches s).engine = s.engine ∧
      (State.expireSearches s).port = s.port ∧
      (State.expireSearches s).writer = s.writer ∧
      (State.expireSearches s).catalog = s.catalog ∧
      (State.expireSearches s).gov = s.gov ∧
      (State.expireSearches s).head = s.head ∧
      (State.expireSearches s).pending = s.pending ∧
      (State.expireSearches s).settings = s.settings := by
  simp [State.expireSearches]

@[simp] theorem State.readNothing_frame (s : State) (i : Nat) (a : SegAddr) :
      (State.readNothing s i a).link = s.link ∧
      (State.readNothing s i a).att = s.att ∧
      (State.readNothing s i a).medium = s.medium ∧
      (State.readNothing s i a).transport = s.transport ∧
      (State.readNothing s i a).tape = s.tape ∧
      (State.readNothing s i a).engine = s.engine ∧
      (State.readNothing s i a).port = s.port ∧
      (State.readNothing s i a).writer = s.writer ∧
      (State.readNothing s i a).catalog = s.catalog ∧
      (State.readNothing s i a).gov = s.gov ∧
      (State.readNothing s i a).head = s.head ∧
      (State.readNothing s i a).pending = s.pending ∧
      (State.readNothing s i a).settings = s.settings ∧
      (State.readNothing s i a).queue.slots.length = s.queue.slots.length := by
  unfold State.readNothing; split <;> simp

@[simp] theorem State.readOutcome_frame (s : State) (i : Nat) (a : SegAddr) (r : SegRead) :
      (State.readOutcome s i a r).link = s.link ∧
      (State.readOutcome s i a r).att = s.att ∧
      (State.readOutcome s i a r).medium = s.medium ∧
      (State.readOutcome s i a r).transport = s.transport ∧
      (State.readOutcome s i a r).tape = s.tape ∧
      (State.readOutcome s i a r).engine = s.engine ∧
      (State.readOutcome s i a r).port = s.port ∧
      (State.readOutcome s i a r).writer = s.writer ∧
      (State.readOutcome s i a r).gov = s.gov ∧
      (State.readOutcome s i a r).head = s.head ∧
      (State.readOutcome s i a r).pending = s.pending ∧
      (State.readOutcome s i a r).settings = s.settings ∧
      (State.readOutcome s i a r).queue.slots.length = s.queue.slots.length := by
  unfold State.readOutcome; dsimp only; repeat' split
  all_goals simp

theorem State.takeLoading_frame (s : State)  (p : State × Nat) (h : s.takeLoading = some p) :
      p.1.link = s.link ∧
      p.1.att = s.att ∧
      p.1.medium = s.medium ∧
      p.1.transport = s.transport ∧
      p.1.tape = s.tape ∧
      p.1.engine = s.engine ∧
      p.1.port = s.port ∧
      p.1.writer = s.writer ∧
      p.1.reader = s.reader ∧
      p.1.catalog = s.catalog ∧
      p.1.gov = s.gov ∧
      p.1.head = s.head ∧
      p.1.pending = s.pending ∧
      p.1.settings = s.settings ∧
      p.1.queue.slots.length = s.queue.slots.length := by
  unfold State.takeLoading at h
  split at h
  · next q hq => simp at h; subst h; exact State.takeFree_frame _ _ _ hq
  · split at h
    · cases hf : highestDecoded s.queue.slots with
      | none => simp [hf] at h
      | some i => simp [hf] at h; subst h; simp
    · simp at h

@[simp] theorem State.planned_frame (s : State) (a : SegAddr) :
      (State.planned s a).link = s.link ∧
      (State.planned s a).att = s.att ∧
      (State.planned s a).medium = s.medium ∧
      (State.planned s a).transport = s.transport ∧
      (State.planned s a).tape = s.tape ∧
      (State.planned s a).queue = s.queue ∧
      (State.planned s a).engine = s.engine ∧
      (State.planned s a).port = s.port ∧
      (State.planned s a).writer = s.writer ∧
      (State.planned s a).catalog = s.catalog ∧
      (State.planned s a).gov = s.gov ∧
      (State.planned s a).head = s.head ∧
      (State.planned s a).pending = s.pending ∧
      (State.planned s a).settings = s.settings := by
  simp [State.planned]

@[simp] theorem State.goBack_frame (s : State) :
      (State.goBack s).link = s.link ∧
      (State.goBack s).att = s.att ∧
      (State.goBack s).medium = s.medium ∧
      (State.goBack s).transport = s.transport ∧
      (State.goBack s).tape = s.tape ∧
      (State.goBack s).queue = s.queue ∧
      (State.goBack s).engine = s.engine ∧
      (State.goBack s).port = s.port ∧
      (State.goBack s).writer = s.writer ∧
      (State.goBack s).catalog = s.catalog ∧
      (State.goBack s).gov = s.gov ∧
      (State.goBack s).head = s.head ∧
      (State.goBack s).pending = s.pending ∧
      (State.goBack s).settings = s.settings := by
  unfold State.goBack; dsimp only; repeat' split
  all_goals simp

@[simp] theorem State.jumpExtent_frame (s : State) :
      (State.jumpExtent s).link = s.link ∧
      (State.jumpExtent s).att = s.att ∧
      (State.jumpExtent s).medium = s.medium ∧
      (State.jumpExtent s).tape = s.tape ∧
      (State.jumpExtent s).queue = s.queue ∧
      (State.jumpExtent s).engine = s.engine ∧
      (State.jumpExtent s).port = s.port ∧
      (State.jumpExtent s).writer = s.writer ∧
      (State.jumpExtent s).catalog = s.catalog ∧
      (State.jumpExtent s).head = s.head ∧
      (State.jumpExtent s).pending = s.pending ∧
      (State.jumpExtent s).settings = s.settings ∧
      (State.jumpExtent s).gov.step = s.gov.step ∧
      (State.jumpExtent s).transport.pos = s.transport.pos := by
  unfold State.jumpExtent; dsimp only; repeat' split
  all_goals simp

@[simp] theorem State.haltReadAhead_frame (s : State) :
      (State.haltReadAhead s).link = s.link ∧
      (State.haltReadAhead s).att = s.att ∧
      (State.haltReadAhead s).medium = s.medium ∧
      (State.haltReadAhead s).tape = s.tape ∧
      (State.haltReadAhead s).queue = s.queue ∧
      (State.haltReadAhead s).engine = s.engine ∧
      (State.haltReadAhead s).port = s.port ∧
      (State.haltReadAhead s).writer = s.writer ∧
      (State.haltReadAhead s).catalog = s.catalog ∧
      (State.haltReadAhead s).head = s.head ∧
      (State.haltReadAhead s).pending = s.pending ∧
      (State.haltReadAhead s).settings = s.settings ∧
      (State.haltReadAhead s).gov.step = s.gov.step ∧
      (State.haltReadAhead s).transport.pos = s.transport.pos := by
  simp [State.haltReadAhead]

@[simp] theorem State.readAtEnd_frame (s : State) :
      (State.readAtEnd s).link = s.link ∧
      (State.readAtEnd s).att = s.att ∧
      (State.readAtEnd s).settings = s.settings ∧
      (State.readAtEnd s).medium = s.medium ∧
      (State.readAtEnd s).transport = s.transport ∧
      (State.readAtEnd s).tape = s.tape ∧
      (State.readAtEnd s).queue = s.queue ∧
      (State.readAtEnd s).engine = s.engine ∧
      (State.readAtEnd s).port = s.port ∧
      (State.readAtEnd s).writer = s.writer ∧
      (State.readAtEnd s).catalog = s.catalog ∧
      (State.readAtEnd s).gov = s.gov ∧
      (State.readAtEnd s).head = s.head ∧
      (State.readAtEnd s).pending = s.pending := by
  unfold State.readAtEnd; split <;> simp

@[simp] theorem State.planRead_frame (s : State) :
      (State.planRead s).link = s.link ∧
      (State.planRead s).att = s.att ∧
      (State.planRead s).medium = s.medium ∧
      (State.planRead s).tape = s.tape ∧
      (State.planRead s).engine = s.engine ∧
      (State.planRead s).port = s.port ∧
      (State.planRead s).writer = s.writer ∧
      (State.planRead s).catalog = s.catalog ∧
      (State.planRead s).head = s.head ∧
      (State.planRead s).pending = s.pending ∧
      (State.planRead s).settings = s.settings ∧
      (State.planRead s).queue.slots.length = s.queue.slots.length ∧
      (State.planRead s).gov.step = s.gov.step ∧
      (State.planRead s).transport.pos = s.transport.pos := by
  unfold State.planRead
  repeat' split
  all_goals first
    | simp; done
    | (rename_i h; have := State.takeLoading_frame _ _ h; simp_all)

@[simp] theorem State.offerRead_frame (s : State) :
      (State.offerRead s).link = s.link ∧
      (State.offerRead s).att = s.att ∧
      (State.offerRead s).medium = s.medium ∧
      (State.offerRead s).tape = s.tape ∧
      (State.offerRead s).engine = s.engine ∧
      (State.offerRead s).port = s.port ∧
      (State.offerRead s).writer = s.writer ∧
      (State.offerRead s).catalog = s.catalog ∧
      (State.offerRead s).head = s.head ∧
      (State.offerRead s).pending = s.pending ∧
      (State.offerRead s).settings = s.settings ∧
      (State.offerRead s).queue.slots.length = s.queue.slots.length ∧
      (State.offerRead s).gov.step = s.gov.step ∧
      (State.offerRead s).transport.pos = s.transport.pos := by
  unfold State.offerRead; dsimp only; repeat' split
  all_goals simp

@[simp] theorem State.startReadAhead_frame (s : State) (l : Location) :
      (State.startReadAhead s l).link = s.link ∧
      (State.startReadAhead s l).att = s.att ∧
      (State.startReadAhead s l).medium = s.medium ∧
      (State.startReadAhead s l).tape = s.tape ∧
      (State.startReadAhead s l).queue = s.queue ∧
      (State.startReadAhead s l).port = s.port ∧
      (State.startReadAhead s l).writer = s.writer ∧
      (State.startReadAhead s l).catalog = s.catalog ∧
      (State.startReadAhead s l).head = s.head ∧
      (State.startReadAhead s l).pending = s.pending ∧
      (State.startReadAhead s l).settings = s.settings ∧
      (State.startReadAhead s l).gov.step = s.gov.step ∧
      (State.startReadAhead s l).transport.pos = s.transport.pos := by
  unfold State.startReadAhead; split <;> simp

@[simp] theorem State.retry_frame (s : State) (e : Search) :
      (State.retry s e).link = s.link ∧
      (State.retry s e).att = s.att ∧
      (State.retry s e).medium = s.medium ∧
      (State.retry s e).tape = s.tape ∧
      (State.retry s e).queue = s.queue ∧
      (State.retry s e).engine = s.engine ∧
      (State.retry s e).port = s.port ∧
      (State.retry s e).writer = s.writer ∧
      (State.retry s e).catalog = s.catalog ∧
      (State.retry s e).head = s.head ∧
      (State.retry s e).pending = s.pending ∧
      (State.retry s e).settings = s.settings ∧
      (State.retry s e).gov.step = s.gov.step ∧
      (State.retry s e).transport.pos = s.transport.pos := by
  simp [State.retry]

@[simp] theorem State.finishRead_frame (s : State) (code : Code) (failed : Option (Nat × Nat × Nat)) (faulted : Option Nat) :
      (State.finishRead s code failed faulted).att = s.att ∧
      (State.finishRead s code failed faulted).medium = s.medium ∧
      (State.finishRead s code failed faulted).tape = s.tape ∧
      (State.finishRead s code failed faulted).writer = s.writer ∧
      (State.finishRead s code failed faulted).catalog = s.catalog ∧
      (State.finishRead s code failed faulted).head = s.head ∧
      (State.finishRead s code failed faulted).pending = s.pending ∧
      (State.finishRead s code failed faulted).settings = s.settings ∧
      (State.finishRead s code failed faulted).queue.slots.length = s.queue.slots.length ∧
      (State.finishRead s code failed faulted).gov.step = s.gov.step ∧
      (State.finishRead s code failed faulted).transport.pos = s.transport.pos := by
  unfold State.finishRead; dsimp only; repeat' split
  all_goals simp

@[simp] theorem State.readEndTest_frame (s : State) :
      (State.readEndTest s).att = s.att ∧
      (State.readEndTest s).medium = s.medium ∧
      (State.readEndTest s).tape = s.tape ∧
      (State.readEndTest s).writer = s.writer ∧
      (State.readEndTest s).catalog = s.catalog ∧
      (State.readEndTest s).head = s.head ∧
      (State.readEndTest s).pending = s.pending ∧
      (State.readEndTest s).settings = s.settings ∧
      (State.readEndTest s).queue.slots.length = s.queue.slots.length ∧
      (State.readEndTest s).gov.step = s.gov.step ∧
      (State.readEndTest s).transport.pos = s.transport.pos := by
  simp only [State.readEndTest]; repeat' split
  all_goals simp

@[simp] theorem State.setEnding_frame (s : State) (code : Code) (faulted : Option Nat) :
      (State.setEnding s code faulted).link = s.link ∧
      (State.setEnding s code faulted).att = s.att ∧
      (State.setEnding s code faulted).medium = s.medium ∧
      (State.setEnding s code faulted).transport = s.transport ∧
      (State.setEnding s code faulted).tape = s.tape ∧
      (State.setEnding s code faulted).queue = s.queue ∧
      (State.setEnding s code faulted).engine = s.engine ∧
      (State.setEnding s code faulted).port = s.port ∧
      (State.setEnding s code faulted).writer = s.writer ∧
      (State.setEnding s code faulted).catalog = s.catalog ∧
      (State.setEnding s code faulted).gov = s.gov ∧
      (State.setEnding s code faulted).head = s.head ∧
      (State.setEnding s code faulted).pending = s.pending ∧
      (State.setEnding s code faulted).settings = s.settings := by
  unfold State.setEnding; split <;> simp

@[simp] theorem State.setNextDrain_frame (s : State) (n : Nat) :
      (State.setNextDrain s n).link = s.link ∧
      (State.setNextDrain s n).att = s.att ∧
      (State.setNextDrain s n).medium = s.medium ∧
      (State.setNextDrain s n).transport = s.transport ∧
      (State.setNextDrain s n).tape = s.tape ∧
      (State.setNextDrain s n).engine = s.engine ∧
      (State.setNextDrain s n).port = s.port ∧
      (State.setNextDrain s n).writer = s.writer ∧
      (State.setNextDrain s n).catalog = s.catalog ∧
      (State.setNextDrain s n).gov = s.gov ∧
      (State.setNextDrain s n).head = s.head ∧
      (State.setNextDrain s n).pending = s.pending ∧
      (State.setNextDrain s n).settings = s.settings ∧
      (State.setNextDrain s n).queue.slots.length = s.queue.slots.length := by
  simp [State.setNextDrain]

@[simp] theorem State.takeBytes_frame (s : State) (i n : Nat) :
      (State.takeBytes s i n).link = s.link ∧
      (State.takeBytes s i n).att = s.att ∧
      (State.takeBytes s i n).medium = s.medium ∧
      (State.takeBytes s i n).transport = s.transport ∧
      (State.takeBytes s i n).tape = s.tape ∧
      (State.takeBytes s i n).port = s.port ∧
      (State.takeBytes s i n).writer = s.writer ∧
      (State.takeBytes s i n).reader = s.reader ∧
      (State.takeBytes s i n).catalog = s.catalog ∧
      (State.takeBytes s i n).gov = s.gov ∧
      (State.takeBytes s i n).head = s.head ∧
      (State.takeBytes s i n).pending = s.pending ∧
      (State.takeBytes s i n).settings = s.settings ∧
      (State.takeBytes s i n).queue.slots.length = s.queue.slots.length := by
  simp [State.takeBytes]

@[simp] theorem State.freeDraining_frame (s : State) (i next : Nat) :
      (State.freeDraining s i next).link = s.link ∧
      (State.freeDraining s i next).att = s.att ∧
      (State.freeDraining s i next).medium = s.medium ∧
      (State.freeDraining s i next).transport = s.transport ∧
      (State.freeDraining s i next).tape = s.tape ∧
      (State.freeDraining s i next).engine = s.engine ∧
      (State.freeDraining s i next).port = s.port ∧
      (State.freeDraining s i next).writer = s.writer ∧
      (State.freeDraining s i next).catalog = s.catalog ∧
      (State.freeDraining s i next).gov = s.gov ∧
      (State.freeDraining s i next).head = s.head ∧
      (State.freeDraining s i next).pending = s.pending ∧
      (State.freeDraining s i next).settings = s.settings ∧
      (State.freeDraining s i next).queue.slots.length = s.queue.slots.length := by
  simp [State.freeDraining]

@[simp] theorem State.startDraining_frame (s : State) (i : Nat) :
      (State.startDraining s i).link = s.link ∧
      (State.startDraining s i).att = s.att ∧
      (State.startDraining s i).medium = s.medium ∧
      (State.startDraining s i).transport = s.transport ∧
      (State.startDraining s i).tape = s.tape ∧
      (State.startDraining s i).port = s.port ∧
      (State.startDraining s i).writer = s.writer ∧
      (State.startDraining s i).catalog = s.catalog ∧
      (State.startDraining s i).gov = s.gov ∧
      (State.startDraining s i).head = s.head ∧
      (State.startDraining s i).pending = s.pending ∧
      (State.startDraining s i).settings = s.settings ∧
      (State.startDraining s i).queue.slots.length = s.queue.slots.length := by
  unfold State.startDraining; dsimp only; repeat' split
  all_goals simp

@[simp] theorem State.handOver_frame (s : State) (w : Walk) (h : BlockHeader) (out : List Byte) (succ : Option (Nat × Bool)) :
      (State.handOver s w h out succ).link = s.link ∧
      (State.handOver s w h out succ).att = s.att ∧
      (State.handOver s w h out succ).medium = s.medium ∧
      (State.handOver s w h out succ).transport = s.transport ∧
      (State.handOver s w h out succ).tape = s.tape ∧
      (State.handOver s w h out succ).queue = s.queue ∧
      (State.handOver s w h out succ).writer = s.writer ∧
      (State.handOver s w h out succ).catalog = s.catalog ∧
      (State.handOver s w h out succ).gov = s.gov ∧
      (State.handOver s w h out succ).head = s.head ∧
      (State.handOver s w h out succ).pending = s.pending ∧
      (State.handOver s w h out succ).settings = s.settings := by
  simp [State.handOver]

@[simp] theorem State.streamFault_frame (s : State) :
      (State.streamFault s).link = s.link ∧
      (State.streamFault s).att = s.att ∧
      (State.streamFault s).medium = s.medium ∧
      (State.streamFault s).transport = s.transport ∧
      (State.streamFault s).tape = s.tape ∧
      (State.streamFault s).queue = s.queue ∧
      (State.streamFault s).port = s.port ∧
      (State.streamFault s).writer = s.writer ∧
      (State.streamFault s).catalog = s.catalog ∧
      (State.streamFault s).gov = s.gov ∧
      (State.streamFault s).head = s.head ∧
      (State.streamFault s).pending = s.pending ∧
      (State.streamFault s).settings = s.settings := by
  simp [State.streamFault]

@[simp] theorem State.overlapTest_frame (s : State) (b : Nat) :
      (s.overlapTest b).1.link = s.link ∧
      (s.overlapTest b).1.medium = s.medium ∧
      (s.overlapTest b).1.transport = s.transport ∧
      (s.overlapTest b).1.tape = s.tape ∧
      (s.overlapTest b).1.queue = s.queue ∧
      (s.overlapTest b).1.engine = s.engine ∧
      (s.overlapTest b).1.port = s.port ∧
      (s.overlapTest b).1.writer = s.writer ∧
      (s.overlapTest b).1.catalog = s.catalog ∧
      (s.overlapTest b).1.gov = s.gov ∧
      (s.overlapTest b).1.head = s.head ∧
      (s.overlapTest b).1.pending = s.pending ∧
      (s.overlapTest b).1.settings = s.settings := by
  unfold State.overlapTest
  split
  · split <;> simp
  · simp

@[simp] theorem State.handKept_frame (s : State) (w : Walk) (h : BlockHeader) (x : Handed) :
      (State.handKept s w h x).link = s.link ∧
      (State.handKept s w h x).medium = s.medium ∧
      (State.handKept s w h x).transport = s.transport ∧
      (State.handKept s w h x).tape = s.tape ∧
      (State.handKept s w h x).queue = s.queue ∧
      (State.handKept s w h x).writer = s.writer ∧
      (State.handKept s w h x).catalog = s.catalog ∧
      (State.handKept s w h x).gov = s.gov ∧
      (State.handKept s w h x).head = s.head ∧
      (State.handKept s w h x).pending = s.pending ∧
      (State.handKept s w h x).settings = s.settings := by
  unfold State.handKept; dsimp only; repeat' split
  all_goals simp

@[simp] theorem State.leaveStripe_frame (s : State) (i n : Nat) (whole : Bool) (b : Nat) :
      (State.leaveStripe s i n whole b).link = s.link ∧
      (State.leaveStripe s i n whole b).att = s.att ∧
      (State.leaveStripe s i n whole b).medium = s.medium ∧
      (State.leaveStripe s i n whole b).transport = s.transport ∧
      (State.leaveStripe s i n whole b).tape = s.tape ∧
      (State.leaveStripe s i n whole b).engine = s.engine ∧
      (State.leaveStripe s i n whole b).port = s.port ∧
      (State.leaveStripe s i n whole b).writer = s.writer ∧
      (State.leaveStripe s i n whole b).catalog = s.catalog ∧
      (State.leaveStripe s i n whole b).gov = s.gov ∧
      (State.leaveStripe s i n whole b).head = s.head ∧
      (State.leaveStripe s i n whole b).pending = s.pending ∧
      (State.leaveStripe s i n whole b).settings = s.settings ∧
      (State.leaveStripe s i n whole b).queue.slots.length = s.queue.slots.length := by
  unfold State.leaveStripe; repeat' split
  all_goals simp

@[simp] theorem State.walkRun_frame (fuel : Nat) (s : State) :
      (State.walkRun fuel s).link = s.link ∧
      (State.walkRun fuel s).medium = s.medium ∧
      (State.walkRun fuel s).transport = s.transport ∧
      (State.walkRun fuel s).tape = s.tape ∧
      (State.walkRun fuel s).writer = s.writer ∧
      (State.walkRun fuel s).catalog = s.catalog ∧
      (State.walkRun fuel s).gov = s.gov ∧
      (State.walkRun fuel s).head = s.head ∧
      (State.walkRun fuel s).pending = s.pending ∧
      (State.walkRun fuel s).settings = s.settings ∧
      (State.walkRun fuel s).queue.slots.length = s.queue.slots.length := by
  induction fuel generalizing s with
  | zero => simp [State.walkRun]
  | succ n ih =>
    unfold State.walkRun
    dsimp only
    repeat' split
    all_goals simp [ih]

@[simp] theorem State.blockSent_frame (s : State) :
      (State.blockSent s).link = s.link ∧
      (State.blockSent s).att = s.att ∧
      (State.blockSent s).medium = s.medium ∧
      (State.blockSent s).transport = s.transport ∧
      (State.blockSent s).tape = s.tape ∧
      (State.blockSent s).queue = s.queue ∧
      (State.blockSent s).writer = s.writer ∧
      (State.blockSent s).catalog = s.catalog ∧
      (State.blockSent s).gov = s.gov ∧
      (State.blockSent s).head = s.head ∧
      (State.blockSent s).pending = s.pending ∧
      (State.blockSent s).settings = s.settings := by
  simp [State.blockSent]

@[simp] theorem State.advanceCurrent_frame (s : State) :
      (State.advanceCurrent s).att = s.att ∧
      (State.advanceCurrent s).medium = s.medium ∧
      (State.advanceCurrent s).tape = s.tape ∧
      (State.advanceCurrent s).writer = s.writer ∧
      (State.advanceCurrent s).head = s.head ∧
      (State.advanceCurrent s).pending = s.pending ∧
      (State.advanceCurrent s).settings = s.settings ∧
      (State.advanceCurrent s).queue.slots.length = s.queue.slots.length ∧
      (State.advanceCurrent s).gov.step = s.gov.step ∧
      (State.advanceCurrent s).transport.pos = s.transport.pos := by
  unfold State.advanceCurrent; dsimp only; repeat' split
  all_goals simp

@[simp] theorem State.resumeHalted_frame (s : State) :
      (State.resumeHalted s).link = s.link ∧
      (State.resumeHalted s).att = s.att ∧
      (State.resumeHalted s).medium = s.medium ∧
      (State.resumeHalted s).tape = s.tape ∧
      (State.resumeHalted s).queue = s.queue ∧
      (State.resumeHalted s).engine = s.engine ∧
      (State.resumeHalted s).port = s.port ∧
      (State.resumeHalted s).writer = s.writer ∧
      (State.resumeHalted s).catalog = s.catalog ∧
      (State.resumeHalted s).head = s.head ∧
      (State.resumeHalted s).pending = s.pending ∧
      (State.resumeHalted s).settings = s.settings ∧
      (State.resumeHalted s).gov.step = s.gov.step ∧
      (State.resumeHalted s).transport.pos = s.transport.pos := by
  unfold State.resumeHalted; dsimp only; repeat' split
  all_goals simp

@[simp] theorem State.testInHand_frame (s : State) :
      (s.testInHand).1.link = s.link ∧
      (s.testInHand).1.medium = s.medium ∧
      (s.testInHand).1.transport = s.transport ∧
      (s.testInHand).1.tape = s.tape ∧
      (s.testInHand).1.queue = s.queue ∧
      (s.testInHand).1.engine = s.engine ∧
      (s.testInHand).1.port = s.port ∧
      (s.testInHand).1.writer = s.writer ∧
      (s.testInHand).1.catalog = s.catalog ∧
      (s.testInHand).1.gov = s.gov ∧
      (s.testInHand).1.head = s.head ∧
      (s.testInHand).1.pending = s.pending ∧
      (s.testInHand).1.settings = s.settings := by
  unfold State.testInHand; repeat' split
  all_goals simp

@[simp] theorem State.takeUpReadAhead_frame (s : State) :
      (State.takeUpReadAhead s).link = s.link ∧
      (State.takeUpReadAhead s).att = s.att ∧
      (State.takeUpReadAhead s).settings = s.settings ∧
      (State.takeUpReadAhead s).medium = s.medium ∧
      (State.takeUpReadAhead s).tape = s.tape ∧
      (State.takeUpReadAhead s).queue = s.queue ∧
      (State.takeUpReadAhead s).engine = s.engine ∧
      (State.takeUpReadAhead s).port = s.port ∧
      (State.takeUpReadAhead s).writer = s.writer ∧
      (State.takeUpReadAhead s).catalog = s.catalog ∧
      (State.takeUpReadAhead s).head = s.head ∧
      (State.takeUpReadAhead s).pending = s.pending ∧
      (State.takeUpReadAhead s).gov.step = s.gov.step ∧
      (State.takeUpReadAhead s).transport.pos = s.transport.pos := by
  unfold State.takeUpReadAhead; dsimp only; repeat' split
  all_goals simp

@[simp] theorem State.beginRead_frame (s : State) (n : Nat) :
      (State.beginRead s n).medium = s.medium ∧
      (State.beginRead s n).tape = s.tape ∧
      (State.beginRead s n).writer = s.writer ∧
      (State.beginRead s n).catalog = s.catalog ∧
      (State.beginRead s n).head = s.head ∧
      (State.beginRead s n).pending = s.pending ∧
      (State.beginRead s n).settings = s.settings ∧
      (State.beginRead s n).queue.slots.length = s.queue.slots.length ∧
      (State.beginRead s n).gov.step = s.gov.step ∧
      (State.beginRead s n).transport.pos = s.transport.pos := by
  unfold State.beginRead; dsimp only; repeat' split
  all_goals simp

@[simp] theorem State.abortRead_frame (s : State) :
      (State.abortRead s).att = s.att ∧
      (State.abortRead s).medium = s.medium ∧
      (State.abortRead s).tape = s.tape ∧
      (State.abortRead s).writer = s.writer ∧
      (State.abortRead s).catalog = s.catalog ∧
      (State.abortRead s).head = s.head ∧
      (State.abortRead s).pending = s.pending ∧
      (State.abortRead s).settings = s.settings ∧
      (State.abortRead s).queue.slots.length = s.queue.slots.length ∧
      (State.abortRead s).gov.step = s.gov.step ∧
      (State.abortRead s).transport.pos = s.transport.pos := by
  unfold State.abortRead; dsimp only; repeat' split
  all_goals simp

@[simp] theorem State.readMotionFault_frame (s : State) (code : Code) :
      (State.readMotionFault s code).att = s.att ∧
      (State.readMotionFault s code).medium = s.medium ∧
      (State.readMotionFault s code).tape = s.tape ∧
      (State.readMotionFault s code).writer = s.writer ∧
      (State.readMotionFault s code).catalog = s.catalog ∧
      (State.readMotionFault s code).head = s.head ∧
      (State.readMotionFault s code).pending = s.pending ∧
      (State.readMotionFault s code).settings = s.settings ∧
      (State.readMotionFault s code).queue.slots.length = s.queue.slots.length ∧
      (State.readMotionFault s code).gov.step = s.gov.step ∧
      (State.readMotionFault s code).transport.pos = s.transport.pos := by
  unfold State.readMotionFault; dsimp only; repeat' split
  all_goals simp

/-! ### Operations of Machine/ScanOps.lean -/

@[simp] theorem State.haltMotion_frame (s : State) :
      (State.haltMotion s).link = s.link ∧
      (State.haltMotion s).att = s.att ∧
      (State.haltMotion s).medium = s.medium ∧
      (State.haltMotion s).engine = s.engine ∧
      (State.haltMotion s).port = s.port ∧
      (State.haltMotion s).writer = s.writer ∧
      (State.haltMotion s).reader = s.reader ∧
      (State.haltMotion s).catalog = s.catalog ∧
      (State.haltMotion s).head = s.head ∧
      (State.haltMotion s).pending = s.pending ∧
      (State.haltMotion s).settings = s.settings ∧
      (State.haltMotion s).queue.slots.length = s.queue.slots.length ∧
      (State.haltMotion s).gov.step = s.gov.step ∧
      (State.haltMotion s).transport.pos = s.transport.pos := by
  unfold State.haltMotion; dsimp only; repeat' split
  all_goals simp

@[simp] theorem State.beginScan_frame (s : State) (postClean : Bool) :
      (State.beginScan s postClean).link = s.link ∧
      (State.beginScan s postClean).att = s.att ∧
      (State.beginScan s postClean).medium = s.medium ∧
      (State.beginScan s postClean).tape = s.tape ∧
      (State.beginScan s postClean).queue = s.queue ∧
      (State.beginScan s postClean).engine = s.engine ∧
      (State.beginScan s postClean).port = s.port ∧
      (State.beginScan s postClean).writer = s.writer ∧
      (State.beginScan s postClean).reader = s.reader ∧
      (State.beginScan s postClean).catalog = s.catalog ∧
      (State.beginScan s postClean).pending = s.pending ∧
      (State.beginScan s postClean).settings = s.settings ∧
      (State.beginScan s postClean).head.table.length = s.head.table.length ∧
      (State.beginScan s postClean).gov.step = s.gov.step ∧
      (State.beginScan s postClean).transport.pos = s.transport.pos := by
  simp [State.beginScan]

@[simp] theorem State.setScan_frame (s : State) (c : Option Scan) :
      (State.setScan s c).link = s.link ∧
      (State.setScan s c).att = s.att ∧
      (State.setScan s c).medium = s.medium ∧
      (State.setScan s c).transport = s.transport ∧
      (State.setScan s c).tape = s.tape ∧
      (State.setScan s c).queue = s.queue ∧
      (State.setScan s c).engine = s.engine ∧
      (State.setScan s c).port = s.port ∧
      (State.setScan s c).writer = s.writer ∧
      (State.setScan s c).reader = s.reader ∧
      (State.setScan s c).catalog = s.catalog ∧
      (State.setScan s c).gov = s.gov ∧
      (State.setScan s c).pending = s.pending ∧
      (State.setScan s c).settings = s.settings ∧
      (State.setScan s c).head.table.length = s.head.table.length := by
  simp [State.setScan]

@[simp] theorem State.scanPassEnd_frame (s : State) :
      (State.scanPassEnd s).link = s.link ∧
      (State.scanPassEnd s).att = s.att ∧
      (State.scanPassEnd s).medium = s.medium ∧
      (State.scanPassEnd s).tape = s.tape ∧
      (State.scanPassEnd s).queue = s.queue ∧
      (State.scanPassEnd s).engine = s.engine ∧
      (State.scanPassEnd s).port = s.port ∧
      (State.scanPassEnd s).writer = s.writer ∧
      (State.scanPassEnd s).reader = s.reader ∧
      (State.scanPassEnd s).catalog = s.catalog ∧
      (State.scanPassEnd s).pending = s.pending ∧
      (State.scanPassEnd s).settings = s.settings ∧
      (State.scanPassEnd s).head.table.length = s.head.table.length ∧
      (State.scanPassEnd s).gov.step = s.gov.step ∧
      (State.scanPassEnd s).transport.pos = s.transport.pos := by
  unfold State.scanPassEnd; dsimp only; repeat' split
  all_goals simp

@[simp] theorem State.storeElement_frame (s : State) (i amplitude noise : Nat) :
      (State.storeElement s i amplitude noise).link = s.link ∧
      (State.storeElement s i amplitude noise).medium = s.medium ∧
      (State.storeElement s i amplitude noise).transport = s.transport ∧
      (State.storeElement s i amplitude noise).tape = s.tape ∧
      (State.storeElement s i amplitude noise).queue = s.queue ∧
      (State.storeElement s i amplitude noise).engine = s.engine ∧
      (State.storeElement s i amplitude noise).port = s.port ∧
      (State.storeElement s i amplitude noise).writer = s.writer ∧
      (State.storeElement s i amplitude noise).reader = s.reader ∧
      (State.storeElement s i amplitude noise).catalog = s.catalog ∧
      (State.storeElement s i amplitude noise).gov = s.gov ∧
      (State.storeElement s i amplitude noise).pending = s.pending ∧
      (State.storeElement s i amplitude noise).settings = s.settings ∧
      (State.storeElement s i amplitude noise).head.table.length = s.head.table.length := by
  simp [State.storeElement]

@[simp] theorem State.scanMarks_frame (s : State) (c : Scan) :
      (State.scanMarks s c).link = s.link ∧
      (State.scanMarks s c).medium = s.medium ∧
      (State.scanMarks s c).transport = s.transport ∧
      (State.scanMarks s c).tape = s.tape ∧
      (State.scanMarks s c).queue = s.queue ∧
      (State.scanMarks s c).engine = s.engine ∧
      (State.scanMarks s c).port = s.port ∧
      (State.scanMarks s c).writer = s.writer ∧
      (State.scanMarks s c).reader = s.reader ∧
      (State.scanMarks s c).catalog = s.catalog ∧
      (State.scanMarks s c).gov = s.gov ∧
      (State.scanMarks s c).pending = s.pending ∧
      (State.scanMarks s c).settings = s.settings ∧
      (State.scanMarks s c).head.table.length = s.head.table.length := by
  simp [State.scanMarks]

@[simp] theorem State.endScanLate_frame (s : State) (code : Code) :
      (State.endScanLate s code).link = s.link ∧
      (State.endScanLate s code).att = s.att ∧
      (State.endScanLate s code).medium = s.medium ∧
      (State.endScanLate s code).engine = s.engine ∧
      (State.endScanLate s code).port = s.port ∧
      (State.endScanLate s code).writer = s.writer ∧
      (State.endScanLate s code).reader = s.reader ∧
      (State.endScanLate s code).catalog = s.catalog ∧
      (State.endScanLate s code).pending = s.pending ∧
      (State.endScanLate s code).settings = s.settings ∧
      (State.endScanLate s code).queue.slots.length = s.queue.slots.length ∧
      (State.endScanLate s code).head.table.length = s.head.table.length ∧
      (State.endScanLate s code).gov.step = s.gov.step ∧
      (State.endScanLate s code).transport.pos = s.transport.pos := by
  unfold State.endScanLate; split <;> simp

@[simp] theorem State.endScanNow_frame (s : State) (code : Code) :
      (State.endScanNow s code).att = s.att ∧
      (State.endScanNow s code).medium = s.medium ∧
      (State.endScanNow s code).transport = s.transport ∧
      (State.endScanNow s code).tape = s.tape ∧
      (State.endScanNow s code).queue = s.queue ∧
      (State.endScanNow s code).engine = s.engine ∧
      (State.endScanNow s code).port = s.port ∧
      (State.endScanNow s code).writer = s.writer ∧
      (State.endScanNow s code).reader = s.reader ∧
      (State.endScanNow s code).catalog = s.catalog ∧
      (State.endScanNow s code).gov = s.gov ∧
      (State.endScanNow s code).pending = s.pending ∧
      (State.endScanNow s code).settings = s.settings ∧
      (State.endScanNow s code).head.table.length = s.head.table.length := by
  simp only [State.endScanNow]; repeat' split
  all_goals simp

@[simp] theorem State.settleScan_frame (s : State) :
      (State.settleScan s).att = s.att ∧
      (State.settleScan s).medium = s.medium ∧
      (State.settleScan s).transport = s.transport ∧
      (State.settleScan s).tape = s.tape ∧
      (State.settleScan s).queue = s.queue ∧
      (State.settleScan s).engine = s.engine ∧
      (State.settleScan s).port = s.port ∧
      (State.settleScan s).writer = s.writer ∧
      (State.settleScan s).reader = s.reader ∧
      (State.settleScan s).catalog = s.catalog ∧
      (State.settleScan s).gov = s.gov ∧
      (State.settleScan s).pending = s.pending ∧
      (State.settleScan s).settings = s.settings ∧
      (State.settleScan s).head.table.length = s.head.table.length := by
  simp only [State.settleScan]; repeat' split
  all_goals simp

end Sys2Proof.Machine
end

