-- ==== Sys2Proof/Laws/FramesWork.lean ====
section
/-! SUPPORT. What the shared operations of the Medium Controller and of the Catalog Engine on the tape leave as it was, with the
settling at the end of a step and the motion faults. -/

namespace Sys2Proof.Machine

/-! ### Operations of Machine/MediumOps.lean -/

@[simp] theorem State.endMedium_frame (s : State) (code : Code) :
      (State.endMedium s code).att = s.att ∧
      (State.endMedium s code).medium = s.medium ∧
      (State.endMedium s code).transport = s.transport ∧
      (State.endMedium s code).tape = s.tape ∧
      (State.endMedium s code).queue = s.queue ∧
      (State.endMedium s code).engine = s.engine ∧
      (State.endMedium s code).port = s.port ∧
      (State.endMedium s code).writer = s.writer ∧
      (State.endMedium s code).reader = s.reader ∧
      (State.endMedium s code).catalog = s.catalog ∧
      (State.endMedium s code).gov = s.gov ∧
      (State.endMedium s code).pending = s.pending ∧
      (State.endMedium s code).settings = s.settings ∧
      (State.endMedium s code).head.table.length = s.head.table.length := by
  unfold State.endMedium; split <;> simp

@[simp] theorem State.driveUnthread_frame (s : State) :
      (State.driveUnthread s).link = s.link ∧
      (State.driveUnthread s).att = s.att ∧
      (State.driveUnthread s).engine = s.engine ∧
      (State.driveUnthread s).port = s.port ∧
      (State.driveUnthread s).writer = s.writer ∧
      (State.driveUnthread s).reader = s.reader ∧
      (State.driveUnthread s).catalog = s.catalog ∧
      (State.driveUnthread s).gov = s.gov ∧
      (State.driveUnthread s).head = s.head ∧
      (State.driveUnthread s).pending = s.pending ∧
      (State.driveUnthread s).settings = s.settings ∧
      (State.driveUnthread s).queue.slots.length = s.queue.slots.length ∧
      (State.driveUnthread s).transport.pos = s.transport.pos := by
  simp [State.driveUnthread]

@[simp] theorem State.beginUnthread_frame (s : State) (a : AfterUnthread) :
      (State.beginUnthread s a).link = s.link ∧
      (State.beginUnthread s a).engine = s.engine ∧
      (State.beginUnthread s a).port = s.port ∧
      (State.beginUnthread s a).writer = s.writer ∧
      (State.beginUnthread s a).reader = s.reader ∧
      (State.beginUnthread s a).catalog = s.catalog ∧
      (State.beginUnthread s a).gov = s.gov ∧
      (State.beginUnthread s a).head = s.head ∧
      (State.beginUnthread s a).pending = s.pending ∧
      (State.beginUnthread s a).settings = s.settings ∧
      (State.beginUnthread s a).queue.slots.length = s.queue.slots.length ∧
      (State.beginUnthread s a).transport.pos = s.transport.pos := by
  unfold State.beginUnthread; dsimp only; repeat' split
  all_goals simp

@[simp] theorem State.settleUnthread_frame (s : State) :
      (State.settleUnthread s).link = s.link ∧
      (State.settleUnthread s).att = s.att ∧
      (State.settleUnthread s).engine = s.engine ∧
      (State.settleUnthread s).port = s.port ∧
      (State.settleUnthread s).writer = s.writer ∧
      (State.settleUnthread s).reader = s.reader ∧
      (State.settleUnthread s).catalog = s.catalog ∧
      (State.settleUnthread s).gov = s.gov ∧
      (State.settleUnthread s).head = s.head ∧
      (State.settleUnthread s).pending = s.pending ∧
      (State.settleUnthread s).settings = s.settings ∧
      (State.settleUnthread s).queue.slots.length = s.queue.slots.length ∧
      (State.settleUnthread s).transport.pos = s.transport.pos := by
  unfold State.settleUnthread; split <;> simp

@[simp] theorem State.beginEject_frame (s : State) (code : Option Code) :
      (State.beginEject s code).link = s.link ∧
      (State.beginEject s code).att = s.att ∧
      (State.beginEject s code).transport = s.transport ∧
      (State.beginEject s code).tape = s.tape ∧
      (State.beginEject s code).queue = s.queue ∧
      (State.beginEject s code).engine = s.engine ∧
      (State.beginEject s code).port = s.port ∧
      (State.beginEject s code).writer = s.writer ∧
      (State.beginEject s code).reader = s.reader ∧
      (State.beginEject s code).catalog = s.catalog ∧
      (State.beginEject s code).gov = s.gov ∧
      (State.beginEject s code).head = s.head ∧
      (State.beginEject s code).pending = s.pending ∧
      (State.beginEject s code).settings = s.settings := by
  simp [State.beginEject]

@[simp] theorem State.unthreaded_frame (s : State) :
      (State.unthreaded s).engine = s.engine ∧
      (State.unthreaded s).port = s.port ∧
      (State.unthreaded s).writer = s.writer ∧
      (State.unthreaded s).reader = s.reader ∧
      (State.unthreaded s).catalog = s.catalog ∧
      (State.unthreaded s).gov = s.gov ∧
      (State.unthreaded s).pending = s.pending ∧
      (State.unthreaded s).settings = s.settings ∧
      (State.unthreaded s).queue.slots.length = s.queue.slots.length ∧
      (State.unthreaded s).head.table.length = s.head.table.length ∧
      (State.unthreaded s).transport.pos = s.transport.pos := by
  unfold State.unthreaded; dsimp only; repeat' split
  all_goals simp

@[simp] theorem State.stuck_frame (s : State) :
      (State.stuck s).engine = s.engine ∧
      (State.stuck s).port = s.port ∧
      (State.stuck s).writer = s.writer ∧
      (State.stuck s).reader = s.reader ∧
      (State.stuck s).catalog = s.catalog ∧
      (State.stuck s).gov = s.gov ∧
      (State.stuck s).pending = s.pending ∧
      (State.stuck s).settings = s.settings ∧
      (State.stuck s).queue.slots.length = s.queue.slots.length ∧
      (State.stuck s).head.table.length = s.head.table.length ∧
      (State.stuck s).transport.pos = s.transport.pos := by
  simp [State.stuck]

@[simp] theorem State.unmountCatalog_frame (s : State) :
      (State.unmountCatalog s).link = s.link ∧
      (State.unmountCatalog s).att = s.att ∧
      (State.unmountCatalog s).medium = s.medium ∧
      (State.unmountCatalog s).transport = s.transport ∧
      (State.unmountCatalog s).tape = s.tape ∧
      (State.unmountCatalog s).engine = s.engine ∧
      (State.unmountCatalog s).port = s.port ∧
      (State.unmountCatalog s).reader = s.reader ∧
      (State.unmountCatalog s).gov = s.gov ∧
      (State.unmountCatalog s).head = s.head ∧
      (State.unmountCatalog s).pending = s.pending ∧
      (State.unmountCatalog s).settings = s.settings ∧
      (State.unmountCatalog s).queue.slots.length = s.queue.slots.length := by
  simp [State.unmountCatalog]

@[simp] theorem State.dropMountWrite_frame (s : State) :
      (State.dropMountWrite s).link = s.link ∧
      (State.dropMountWrite s).att = s.att ∧
      (State.dropMountWrite s).transport = s.transport ∧
      (State.dropMountWrite s).tape = s.tape ∧
      (State.dropMountWrite s).queue = s.queue ∧
      (State.dropMountWrite s).engine = s.engine ∧
      (State.dropMountWrite s).port = s.port ∧
      (State.dropMountWrite s).writer = s.writer ∧
      (State.dropMountWrite s).reader = s.reader ∧
      (State.dropMountWrite s).catalog = s.catalog ∧
      (State.dropMountWrite s).gov = s.gov ∧
      (State.dropMountWrite s).head = s.head ∧
      (State.dropMountWrite s).pending = s.pending ∧
      (State.dropMountWrite s).settings = s.settings := by
  simp [State.dropMountWrite]

@[simp] theorem State.failMount_frame (s : State) (code : Code) :
      (State.failMount s code).link = s.link ∧
      (State.failMount s code).engine = s.engine ∧
      (State.failMount s code).port = s.port ∧
      (State.failMount s code).reader = s.reader ∧
      (State.failMount s code).gov = s.gov ∧
      (State.failMount s code).pending = s.pending ∧
      (State.failMount s code).settings = s.settings ∧
      (State.failMount s code).queue.slots.length = s.queue.slots.length ∧
      (State.failMount s code).head.table.length = s.head.table.length ∧
      (State.failMount s code).transport.pos = s.transport.pos := by
  simp [State.failMount]

@[simp] theorem State.storeZone_frame (s : State) (tag : Byte) (i : Nat) (z : Zone) :
      (State.storeZone s tag i z).att = s.att ∧
      (State.storeZone s tag i z).medium = s.medium ∧
      (State.storeZone s tag i z).transport = s.transport ∧
      (State.storeZone s tag i z).tape = s.tape ∧
      (State.storeZone s tag i z).queue = s.queue ∧
      (State.storeZone s tag i z).engine = s.engine ∧
      (State.storeZone s tag i z).port = s.port ∧
      (State.storeZone s tag i z).writer = s.writer ∧
      (State.storeZone s tag i z).reader = s.reader ∧
      (State.storeZone s tag i z).gov = s.gov ∧
      (State.storeZone s tag i z).head = s.head ∧
      (State.storeZone s tag i z).pending = s.pending ∧
      (State.storeZone s tag i z).settings = s.settings := by
  simp [State.storeZone]

@[simp] theorem State.openSession_frame (s : State) :
      (State.openSession s).medium = s.medium ∧
      (State.openSession s).transport = s.transport ∧
      (State.openSession s).tape = s.tape ∧
      (State.openSession s).reader = s.reader ∧
      (State.openSession s).gov = s.gov ∧
      (State.openSession s).head = s.head ∧
      (State.openSession s).pending = s.pending ∧
      (State.openSession s).settings = s.settings ∧
      (State.openSession s).queue.slots.length = s.queue.slots.length := by
  unfold State.openSession; dsimp only; repeat' split
  all_goals simp

@[simp] theorem State.beginRewind_frame (s : State) :
      (State.beginRewind s).link = s.link ∧
      (State.beginRewind s).att = s.att ∧
      (State.beginRewind s).tape = s.tape ∧
      (State.beginRewind s).queue = s.queue ∧
      (State.beginRewind s).engine = s.engine ∧
      (State.beginRewind s).port = s.port ∧
      (State.beginRewind s).writer = s.writer ∧
      (State.beginRewind s).reader = s.reader ∧
      (State.beginRewind s).catalog = s.catalog ∧
      (State.beginRewind s).head = s.head ∧
      (State.beginRewind s).pending = s.pending ∧
      (State.beginRewind s).settings = s.settings ∧
      (State.beginRewind s).gov.step = s.gov.step ∧
      (State.beginRewind s).transport.pos = s.transport.pos := by
  simp [State.beginRewind]

@[simp] theorem State.retireDone_frame (s : State) (b : Nat) (place : Option Location) (ok : Bool) :
      (State.retireDone s b place ok).att = s.att ∧
      (State.retireDone s b place ok).medium = s.medium ∧
      (State.retireDone s b place ok).transport = s.transport ∧
      (State.retireDone s b place ok).tape = s.tape ∧
      (State.retireDone s b place ok).queue = s.queue ∧
      (State.retireDone s b place ok).engine = s.engine ∧
      (State.retireDone s b place ok).port = s.port ∧
      (State.retireDone s b place ok).writer = s.writer ∧
      (State.retireDone s b place ok).reader = s.reader ∧
      (State.retireDone s b place ok).gov = s.gov ∧
      (State.retireDone s b place ok).head = s.head ∧
      (State.retireDone s b place ok).pending = s.pending ∧
      (State.retireDone s b place ok).settings = s.settings := by
  unfold State.retireDone; dsimp only; repeat' split
  all_goals simp

@[simp] theorem State.mountDone_frame (s : State) (ok : Bool) :
      (State.mountDone s ok).engine = s.engine ∧
      (State.mountDone s ok).port = s.port ∧
      (State.mountDone s ok).reader = s.reader ∧
      (State.mountDone s ok).gov = s.gov ∧
      (State.mountDone s ok).pending = s.pending ∧
      (State.mountDone s ok).settings = s.settings ∧
      (State.mountDone s ok).queue.slots.length = s.queue.slots.length ∧
      (State.mountDone s ok).head.table.length = s.head.table.length ∧
      (State.mountDone s ok).transport.pos = s.transport.pos := by
  unfold State.mountDone; dsimp only; repeat' split
  all_goals simp

@[simp] theorem State.unmountWriteDone_frame (s : State) (ok : Bool) :
      (State.unmountWriteDone s ok).link = s.link ∧
      (State.unmountWriteDone s ok).tape = s.tape ∧
      (State.unmountWriteDone s ok).engine = s.engine ∧
      (State.unmountWriteDone s ok).port = s.port ∧
      (State.unmountWriteDone s ok).writer = s.writer ∧
      (State.unmountWriteDone s ok).reader = s.reader ∧
      (State.unmountWriteDone s ok).catalog = s.catalog ∧
      (State.unmountWriteDone s ok).pending = s.pending ∧
      (State.unmountWriteDone s ok).settings = s.settings ∧
      (State.unmountWriteDone s ok).queue.slots.length = s.queue.slots.length ∧
      (State.unmountWriteDone s ok).head.table.length = s.head.table.length ∧
      (State.unmountWriteDone s ok).gov.step = s.gov.step ∧
      (State.unmountWriteDone s ok).transport.pos = s.transport.pos := by
  unfold State.unmountWriteDone; split <;> simp

@[simp] theorem State.cleaningDone_frame (s : State) (ok : Bool) :
      (State.cleaningDone s ok).link = s.link ∧
      (State.cleaningDone s ok).engine = s.engine ∧
      (State.cleaningDone s ok).port = s.port ∧
      (State.cleaningDone s ok).writer = s.writer ∧
      (State.cleaningDone s ok).reader = s.reader ∧
      (State.cleaningDone s ok).catalog = s.catalog ∧
      (State.cleaningDone s ok).gov = s.gov ∧
      (State.cleaningDone s ok).pending = s.pending ∧
      (State.cleaningDone s ok).settings = s.settings ∧
      (State.cleaningDone s ok).queue.slots.length = s.queue.slots.length ∧
      (State.cleaningDone s ok).head.table.length = s.head.table.length ∧
      (State.cleaningDone s ok).transport.pos = s.transport.pos := by
  unfold State.cleaningDone; dsimp only; repeat' split
  all_goals simp

@[simp] theorem State.cmEnded_frame (s : State) (p : CmPurpose) (ok : Bool) :
      (State.cmEnded s p ok).reader = s.reader ∧
      (State.cmEnded s p ok).pending = s.pending ∧
      (State.cmEnded s p ok).settings = s.settings ∧
      (State.cmEnded s p ok).queue.slots.length = s.queue.slots.length ∧
      (State.cmEnded s p ok).head.table.length = s.head.table.length ∧
      (State.cmEnded s p ok).gov.step = s.gov.step ∧
      (State.cmEnded s p ok).transport.pos = s.transport.pos := by
  unfold State.cmEnded; dsimp only; repeat' split
  all_goals simp

@[simp] theorem State.startCm_frame (s : State) (p : CmPurpose) :
      (State.startCm s p).link = s.link ∧
      (State.startCm s p).att = s.att ∧
      (State.startCm s p).transport = s.transport ∧
      (State.startCm s p).tape = s.tape ∧
      (State.startCm s p).queue = s.queue ∧
      (State.startCm s p).engine = s.engine ∧
      (State.startCm s p).port = s.port ∧
      (State.startCm s p).writer = s.writer ∧
      (State.startCm s p).reader = s.reader ∧
      (State.startCm s p).catalog = s.catalog ∧
      (State.startCm s p).gov = s.gov ∧
      (State.startCm s p).head = s.head ∧
      (State.startCm s p).pending = s.pending ∧
      (State.startCm s p).settings = s.settings := by
  unfold State.startCm; split <;> simp

@[simp] theorem State.requestCm_frame (s : State) (p : CmPurpose) :
      (State.requestCm s p).reader = s.reader ∧
      (State.requestCm s p).pending = s.pending ∧
      (State.requestCm s p).settings = s.settings ∧
      (State.requestCm s p).queue.slots.length = s.queue.slots.length ∧
      (State.requestCm s p).head.table.length = s.head.table.length ∧
      (State.requestCm s p).gov.step = s.gov.step ∧
      (State.requestCm s p).transport.pos = s.transport.pos := by
  unfold State.requestCm; dsimp only; repeat' split
  all_goals simp

@[simp] theorem State.zoneOrWrite_frame (s : State) (tag : Byte) (i : Nat) (z : Zone) :
      (State.zoneOrWrite s tag i z).att = s.att ∧
      (State.zoneOrWrite s tag i z).transport = s.transport ∧
      (State.zoneOrWrite s tag i z).tape = s.tape ∧
      (State.zoneOrWrite s tag i z).queue = s.queue ∧
      (State.zoneOrWrite s tag i z).engine = s.engine ∧
      (State.zoneOrWrite s tag i z).port = s.port ∧
      (State.zoneOrWrite s tag i z).writer = s.writer ∧
      (State.zoneOrWrite s tag i z).reader = s.reader ∧
      (State.zoneOrWrite s tag i z).gov = s.gov ∧
      (State.zoneOrWrite s tag i z).head = s.head ∧
      (State.zoneOrWrite s tag i z).pending = s.pending ∧
      (State.zoneOrWrite s tag i z).settings = s.settings := by
  simp only [State.zoneOrWrite]; repeat' split
  all_goals simp

@[simp] theorem State.nextCm_frame (fuel : Nat) (s : State) :
      (State.nextCm fuel s).reader = s.reader ∧
      (State.nextCm fuel s).pending = s.pending ∧
      (State.nextCm fuel s).settings = s.settings ∧
      (State.nextCm fuel s).queue.slots.length = s.queue.slots.length ∧
      (State.nextCm fuel s).head.table.length = s.head.table.length ∧
      (State.nextCm fuel s).gov.step = s.gov.step ∧
      (State.nextCm fuel s).transport.pos = s.transport.pos := by
  induction fuel generalizing s with
  | zero => simp [State.nextCm]
  | succ n ih =>
    unfold State.nextCm
    split
    · simp
    · split
      · simp [ih]
      · split
        · dsimp only
          split
          · simp [ih]
          · split <;> simp [ih]
        · simp

@[simp] theorem State.cmReadBack_frame (s : State) (readBack : Option (List Byte)) :
      (State.cmReadBack s readBack).reader = s.reader ∧
      (State.cmReadBack s readBack).pending = s.pending ∧
      (State.cmReadBack s readBack).settings = s.settings ∧
      (State.cmReadBack s readBack).queue.slots.length = s.queue.slots.length ∧
      (State.cmReadBack s readBack).head.table.length = s.head.table.length ∧
      (State.cmReadBack s readBack).gov.step = s.gov.step ∧
      (State.cmReadBack s readBack).transport.pos = s.transport.pos := by
  unfold State.cmReadBack; dsimp only; repeat' split
  all_goals simp

@[simp] theorem State.dropCm_frame (s : State) :
      (State.dropCm s).att = s.att ∧
      (State.dropCm s).transport = s.transport ∧
      (State.dropCm s).tape = s.tape ∧
      (State.dropCm s).queue = s.queue ∧
      (State.dropCm s).engine = s.engine ∧
      (State.dropCm s).port = s.port ∧
      (State.dropCm s).reader = s.reader ∧
      (State.dropCm s).catalog = s.catalog ∧
      (State.dropCm s).gov = s.gov ∧
      (State.dropCm s).head = s.head ∧
      (State.dropCm s).pending = s.pending ∧
      (State.dropCm s).settings = s.settings := by
  unfold State.dropCm
  have fold : ∀ (ts : List Byte) (t : State),
      (ts.foldl (fun st tag => st.respond tag .mediumFault .none) t).att = t.att ∧
      (ts.foldl (fun st tag => st.respond tag .mediumFault .none) t).transport = t.transport ∧
      (ts.foldl (fun st tag => st.respond tag .mediumFault .none) t).tape = t.tape ∧
      (ts.foldl (fun st tag => st.respond tag .mediumFault .none) t).queue = t.queue ∧
      (ts.foldl (fun st tag => st.respond tag .mediumFault .none) t).engine = t.engine ∧
      (ts.foldl (fun st tag => st.respond tag .mediumFault .none) t).port = t.port ∧
      (ts.foldl (fun st tag => st.respond tag .mediumFault .none) t).reader = t.reader ∧
      (ts.foldl (fun st tag => st.respond tag .mediumFault .none) t).catalog = t.catalog ∧
      (ts.foldl (fun st tag => st.respond tag .mediumFault .none) t).gov = t.gov ∧
      (ts.foldl (fun st tag => st.respond tag .mediumFault .none) t).head = t.head ∧
      (ts.foldl (fun st tag => st.respond tag .mediumFault .none) t).pending = t.pending ∧
      (ts.foldl (fun st tag => st.respond tag .mediumFault .none) t).settings = t.settings := by
    intro ts
    induction ts with
    | nil => simp
    | cons x xs ih => intro t; simp [ih]
  dsimp only
  simp [fold]

@[simp] theorem State.catalogReady_frame (s : State) (source : Code) :
      (State.catalogReady s source).reader = s.reader ∧
      (State.catalogReady s source).pending = s.pending ∧
      (State.catalogReady s source).settings = s.settings ∧
      (State.catalogReady s source).queue.slots.length = s.queue.slots.length ∧
      (State.catalogReady s source).head.table.length = s.head.table.length ∧
      (State.catalogReady s source).gov.step = s.gov.step ∧
      (State.catalogReady s source).transport.pos = s.transport.pos := by
  unfold State.catalogReady; dsimp only; repeat' split
  all_goals simp

@[simp] theorem State.takeImage_frame (s : State) (payload : List Byte) :
      (State.takeImage s payload).link = s.link ∧
      (State.takeImage s payload).att = s.att ∧
      (State.takeImage s payload).medium = s.medium ∧
      (State.takeImage s payload).transport = s.transport ∧
      (State.takeImage s payload).tape = s.tape ∧
      (State.takeImage s payload).engine = s.engine ∧
      (State.takeImage s payload).port = s.port ∧
      (State.takeImage s payload).writer = s.writer ∧
      (State.takeImage s payload).reader = s.reader ∧
      (State.takeImage s payload).catalog = s.catalog ∧
      (State.takeImage s payload).gov = s.gov ∧
      (State.takeImage s payload).head = s.head ∧
      (State.takeImage s payload).pending = s.pending ∧
      (State.takeImage s payload).settings = s.settings ∧
      (State.takeImage s payload).queue.slots.length = s.queue.slots.length := by
  unfold State.takeImage
  split
  · next h => have := State.takeFree_frame _ _ _ h; simp_all
  · simp

@[simp] theorem State.beginLoad_frame (s : State) (zonesOnly : Bool) :
      (State.beginLoad s zonesOnly).link = s.link ∧
      (State.beginLoad s zonesOnly).att = s.att ∧
      (State.beginLoad s zonesOnly).medium = s.medium ∧
      (State.beginLoad s zonesOnly).tape = s.tape ∧
      (State.beginLoad s zonesOnly).engine = s.engine ∧
      (State.beginLoad s zonesOnly).port = s.port ∧
      (State.beginLoad s zonesOnly).writer = s.writer ∧
      (State.beginLoad s zonesOnly).reader = s.reader ∧
      (State.beginLoad s zonesOnly).head = s.head ∧
      (State.beginLoad s zonesOnly).pending = s.pending ∧
      (State.beginLoad s zonesOnly).settings = s.settings ∧
      (State.beginLoad s zonesOnly).queue.slots.length = s.queue.slots.length ∧
      (State.beginLoad s zonesOnly).gov.step = s.gov.step ∧
      (State.beginLoad s zonesOnly).transport.pos = s.transport.pos := by
  simp [State.beginLoad]

@[simp] theorem State.beginRebuild_frame (s : State) :
      (State.beginRebuild s).link = s.link ∧
      (State.beginRebuild s).tape = s.tape ∧
      (State.beginRebuild s).queue = s.queue ∧
      (State.beginRebuild s).engine = s.engine ∧
      (State.beginRebuild s).port = s.port ∧
      (State.beginRebuild s).writer = s.writer ∧
      (State.beginRebuild s).reader = s.reader ∧
      (State.beginRebuild s).head = s.head ∧
      (State.beginRebuild s).pending = s.pending ∧
      (State.beginRebuild s).settings = s.settings ∧
      (State.beginRebuild s).gov.step = s.gov.step ∧
      (State.beginRebuild s).transport.pos = s.transport.pos := by
  simp [State.beginRebuild]

@[simp] theorem State.beginMounting_frame (s : State) (r : CmRecord) :
      (State.beginMounting s r).reader = s.reader ∧
      (State.beginMounting s r).pending = s.pending ∧
      (State.beginMounting s r).settings = s.settings ∧
      (State.beginMounting s r).queue.slots.length = s.queue.slots.length ∧
      (State.beginMounting s r).head.table.length = s.head.table.length ∧
      (State.beginMounting s r).gov.step = s.gov.step ∧
      (State.beginMounting s r).transport.pos = s.transport.pos := by
  unfold State.beginMounting; dsimp only; repeat' split
  all_goals simp

@[simp] theorem State.beginCleaning_frame (s : State) :
      (State.beginCleaning s).link = s.link ∧
      (State.beginCleaning s).tape = s.tape ∧
      (State.beginCleaning s).queue = s.queue ∧
      (State.beginCleaning s).engine = s.engine ∧
      (State.beginCleaning s).port = s.port ∧
      (State.beginCleaning s).writer = s.writer ∧
      (State.beginCleaning s).reader = s.reader ∧
      (State.beginCleaning s).catalog = s.catalog ∧
      (State.beginCleaning s).gov = s.gov ∧
      (State.beginCleaning s).head = s.head ∧
      (State.beginCleaning s).pending = s.pending ∧
      (State.beginCleaning s).settings = s.settings ∧
      (State.beginCleaning s).transport.pos = s.transport.pos := by
  simp [State.beginCleaning]

@[simp] theorem State.unmountWrite_frame (s : State) :
      (State.unmountWrite s).reader = s.reader ∧
      (State.unmountWrite s).pending = s.pending ∧
      (State.unmountWrite s).settings = s.settings ∧
      (State.unmountWrite s).queue.slots.length = s.queue.slots.length ∧
      (State.unmountWrite s).head.table.length = s.head.table.length ∧
      (State.unmountWrite s).gov.step = s.gov.step ∧
      (State.unmountWrite s).transport.pos = s.transport.pos := by
  simp [State.unmountWrite]

@[simp] theorem State.beginUnmount_frame (s : State) :
      (State.beginUnmount s).reader = s.reader ∧
      (State.beginUnmount s).pending = s.pending ∧
      (State.beginUnmount s).settings = s.settings ∧
      (State.beginUnmount s).queue.slots.length = s.queue.slots.length ∧
      (State.beginUnmount s).head.table.length = s.head.table.length ∧
      (State.beginUnmount s).gov.step = s.gov.step ∧
      (State.beginUnmount s).transport.pos = s.transport.pos := by
  unfold State.beginUnmount; dsimp only; repeat' split
  all_goals simp

@[simp] theorem State.saveEnded_frame (s : State) (ok : Bool) :
      (State.saveEnded s ok).link = s.link ∧
      (State.saveEnded s ok).att = s.att ∧
      (State.saveEnded s ok).transport = s.transport ∧
      (State.saveEnded s ok).tape = s.tape ∧
      (State.saveEnded s ok).queue = s.queue ∧
      (State.saveEnded s ok).engine = s.engine ∧
      (State.saveEnded s ok).port = s.port ∧
      (State.saveEnded s ok).writer = s.writer ∧
      (State.saveEnded s ok).reader = s.reader ∧
      (State.saveEnded s ok).gov = s.gov ∧
      (State.saveEnded s ok).head = s.head ∧
      (State.saveEnded s ok).pending = s.pending ∧
      (State.saveEnded s ok).settings = s.settings := by
  simp [State.saveEnded]

@[simp] theorem State.dropSession_frame (s : State) :
      (State.dropSession s).link = s.link ∧
      (State.dropSession s).att = s.att ∧
      (State.dropSession s).medium = s.medium ∧
      (State.dropSession s).tape = s.tape ∧
      (State.dropSession s).reader = s.reader ∧
      (State.dropSession s).head = s.head ∧
      (State.dropSession s).pending = s.pending ∧
      (State.dropSession s).settings = s.settings ∧
      (State.dropSession s).queue.slots.length = s.queue.slots.length ∧
      (State.dropSession s).gov.step = s.gov.step ∧
      (State.dropSession s).transport.pos = s.transport.pos := by
  unfold State.dropSession; dsimp only; repeat' split
  all_goals simp

/-! ### Operations of Machine/CatWorkOps.lean -/

/-- The state an offered stripe leaves. -/
def Offered.state : Offered → State
  | .goesOn s _ => s
  | .ends s _ _ => s

@[simp] theorem State.setWork_frame (s : State) (w : CatWork) :
      (State.setWork s w).link = s.link ∧
      (State.setWork s w).att = s.att ∧
      (State.setWork s w).medium = s.medium ∧
      (State.setWork s w).transport = s.transport ∧
      (State.setWork s w).tape = s.tape ∧
      (State.setWork s w).queue = s.queue ∧
      (State.setWork s w).engine = s.engine ∧
      (State.setWork s w).port = s.port ∧
      (State.setWork s w).writer = s.writer ∧
      (State.setWork s w).reader = s.reader ∧
      (State.setWork s w).gov = s.gov ∧
      (State.setWork s w).head = s.head ∧
      (State.setWork s w).pending = s.pending ∧
      (State.setWork s w).settings = s.settings := by
  simp [State.setWork]

@[simp] theorem State.endWork_frame (s : State) :
      (State.endWork s).link = s.link ∧
      (State.endWork s).att = s.att ∧
      (State.endWork s).medium = s.medium ∧
      (State.endWork s).engine = s.engine ∧
      (State.endWork s).port = s.port ∧
      (State.endWork s).writer = s.writer ∧
      (State.endWork s).reader = s.reader ∧
      (State.endWork s).head = s.head ∧
      (State.endWork s).pending = s.pending ∧
      (State.endWork s).settings = s.settings ∧
      (State.endWork s).queue.slots.length = s.queue.slots.length ∧
      (State.endWork s).gov.step = s.gov.step ∧
      (State.endWork s).transport.pos = s.transport.pos := by
  simp [State.endWork]

@[simp] theorem State.offerAt_frame (s : State) (o : Owner) (next : SegAddr) (slot : Option Nat) (advance : State → State) (h : ∀ t : State,
      (advance t).link = t.link ∧
      (advance t).att = t.att ∧
      (advance t).medium = t.medium ∧
      (advance t).tape = t.tape ∧
      (advance t).engine = t.engine ∧
      (advance t).port = t.port ∧
      (advance t).writer = t.writer ∧
      (advance t).reader = t.reader ∧
      (advance t).head = t.head ∧
      (advance t).pending = t.pending ∧
      (advance t).settings = t.settings ∧
      (advance t).queue.slots.length = t.queue.slots.length ∧
      (advance t).gov.step = t.gov.step ∧
      (advance t).transport.pos = t.transport.pos):
      (State.offerAt s o next slot advance).link = s.link ∧
      (State.offerAt s o next slot advance).att = s.att ∧
      (State.offerAt s o next slot advance).medium = s.medium ∧
      (State.offerAt s o next slot advance).tape = s.tape ∧
      (State.offerAt s o next slot advance).engine = s.engine ∧
      (State.offerAt s o next slot advance).port = s.port ∧
      (State.offerAt s o next slot advance).writer = s.writer ∧
      (State.offerAt s o next slot advance).reader = s.reader ∧
      (State.offerAt s o next slot advance).head = s.head ∧
      (State.offerAt s o next slot advance).pending = s.pending ∧
      (State.offerAt s o next slot advance).settings = s.settings ∧
      (State.offerAt s o next slot advance).queue.slots.length = s.queue.slots.length ∧
      (State.offerAt s o next slot advance).gov.step = s.gov.step ∧
      (State.offerAt s o next slot advance).transport.pos = s.transport.pos := by
  unfold State.offerAt
  repeat' split
  all_goals first
    | simp [h]; done
    | (rename_i q; have := State.takeFree_frame _ _ _ q; simp_all)

theorem State.takeForRebuild_frame (s : State) (r : Rebuild) (p : State × Nat × Rebuild) (h : s.takeForRebuild r = some p) :
      p.1.link = s.link ∧
      p.1.att = s.att ∧
      p.1.medium = s.medium ∧
      p.1.transport = s.transport ∧
      p.1.tape = s.tape ∧
      p.1.engine = s.engine ∧
      p.1.port = s.port ∧
      p.1.writer = s.writer ∧
      p.1.reader = s.reader ∧
      p.1.catalog = s.catalog ∧
      p.1.gov = s.gov ∧
      p.1.head = s.head ∧
      p.1.pending = s.pending ∧
      p.1.settings = s.settings ∧
      p.1.queue.slots.length = s.queue.slots.length := by
  unfold State.takeForRebuild at h
  split at h
  · next q => have o := State.takeFree_frame _ _ _ q; simp at h; subst h; exact o
  · split at h
    · simp at h
    · cases hf : highestDecoded s.queue.slots with
      | none => simp [hf] at h
      | some i => simp [hf] at h; subst h; simp

@[simp] theorem State.offerRebuild_frame (s : State) (r : Rebuild) :
      (State.offerRebuild s r).link = s.link ∧
      (State.offerRebuild s r).att = s.att ∧
      (State.offerRebuild s r).medium = s.medium ∧
      (State.offerRebuild s r).tape = s.tape ∧
      (State.offerRebuild s r).engine = s.engine ∧
      (State.offerRebuild s r).port = s.port ∧
      (State.offerRebuild s r).writer = s.writer ∧
      (State.offerRebuild s r).reader = s.reader ∧
      (State.offerRebuild s r).head = s.head ∧
      (State.offerRebuild s r).pending = s.pending ∧
      (State.offerRebuild s r).settings = s.settings ∧
      (State.offerRebuild s r).queue.slots.length = s.queue.slots.length ∧
      (State.offerRebuild s r).gov.step = s.gov.step ∧
      (State.offerRebuild s r).transport.pos = s.transport.pos := by
  unfold State.offerRebuild
  repeat' split
  all_goals first
    | simp; done
    | (rename_i q; have := State.takeForRebuild_frame _ _ _ q; simp_all)

@[simp] theorem State.offerCatalog_frame (s : State) :
      (State.offerCatalog s).link = s.link ∧
      (State.offerCatalog s).att = s.att ∧
      (State.offerCatalog s).medium = s.medium ∧
      (State.offerCatalog s).tape = s.tape ∧
      (State.offerCatalog s).engine = s.engine ∧
      (State.offerCatalog s).port = s.port ∧
      (State.offerCatalog s).writer = s.writer ∧
      (State.offerCatalog s).reader = s.reader ∧
      (State.offerCatalog s).head = s.head ∧
      (State.offerCatalog s).pending = s.pending ∧
      (State.offerCatalog s).settings = s.settings ∧
      (State.offerCatalog s).queue.slots.length = s.queue.slots.length ∧
      (State.offerCatalog s).gov.step = s.gov.step ∧
      (State.offerCatalog s).transport.pos = s.transport.pos := by
  unfold State.offerCatalog
  repeat' split
  all_goals simp

@[simp] theorem State.beginFine_frame (s : State) (p : FinePurpose) (target : Nat) :
      (State.beginFine s p target).link = s.link ∧
      (State.beginFine s p target).att = s.att ∧
      (State.beginFine s p target).medium = s.medium ∧
      (State.beginFine s p target).tape = s.tape ∧
      (State.beginFine s p target).queue = s.queue ∧
      (State.beginFine s p target).engine = s.engine ∧
      (State.beginFine s p target).port = s.port ∧
      (State.beginFine s p target).writer = s.writer ∧
      (State.beginFine s p target).reader = s.reader ∧
      (State.beginFine s p target).head = s.head ∧
      (State.beginFine s p target).pending = s.pending ∧
      (State.beginFine s p target).settings = s.settings ∧
      (State.beginFine s p target).gov.step = s.gov.step ∧
      (State.beginFine s p target).transport.pos = s.transport.pos := by
  unfold State.beginFine; split <;> simp

@[simp] theorem State.endSpace_frame (s : State) (code : Code) (passed : Nat) :
      (State.endSpace s code passed).att = s.att ∧
      (State.endSpace s code passed).medium = s.medium ∧
      (State.endSpace s code passed).engine = s.engine ∧
      (State.endSpace s code passed).port = s.port ∧
      (State.endSpace s code passed).writer = s.writer ∧
      (State.endSpace s code passed).head = s.head ∧
      (State.endSpace s code passed).pending = s.pending ∧
      (State.endSpace s code passed).settings = s.settings ∧
      (State.endSpace s code passed).queue.slots.length = s.queue.slots.length ∧
      (State.endSpace s code passed).gov.step = s.gov.step ∧
      (State.endSpace s code passed).transport.pos = s.transport.pos := by
  simp [State.endSpace]

@[simp] theorem State.positionAt_frame (s : State) (b : Nat) (l : Option Location) :
      (State.positionAt s b l).link = s.link ∧
      (State.positionAt s b l).att = s.att ∧
      (State.positionAt s b l).medium = s.medium ∧
      (State.positionAt s b l).transport = s.transport ∧
      (State.positionAt s b l).tape = s.tape ∧
      (State.positionAt s b l).queue = s.queue ∧
      (State.positionAt s b l).engine = s.engine ∧
      (State.positionAt s b l).port = s.port ∧
      (State.positionAt s b l).writer = s.writer ∧
      (State.positionAt s b l).reader = s.reader ∧
      (State.positionAt s b l).gov = s.gov ∧
      (State.positionAt s b l).head = s.head ∧
      (State.positionAt s b l).pending = s.pending ∧
      (State.positionAt s b l).settings = s.settings := by
  simp [State.positionAt]

@[simp] theorem State.rebuildZones_frame (s : State) :
      (State.rebuildZones s).link = s.link ∧
      (State.rebuildZones s).att = s.att ∧
      (State.rebuildZones s).medium = s.medium ∧
      (State.rebuildZones s).tape = s.tape ∧
      (State.rebuildZones s).engine = s.engine ∧
      (State.rebuildZones s).port = s.port ∧
      (State.rebuildZones s).writer = s.writer ∧
      (State.rebuildZones s).reader = s.reader ∧
      (State.rebuildZones s).head = s.head ∧
      (State.rebuildZones s).pending = s.pending ∧
      (State.rebuildZones s).settings = s.settings ∧
      (State.rebuildZones s).queue.slots.length = s.queue.slots.length ∧
      (State.rebuildZones s).gov.step = s.gov.step ∧
      (State.rebuildZones s).transport.pos = s.transport.pos := by
  simp [State.rebuildZones]

@[simp] theorem State.eodCut_frame (s : State) (b : Nat) (l : Option Location) :
      (State.eodCut s b l).link = s.link ∧
      (State.eodCut s b l).att = s.att ∧
      (State.eodCut s b l).medium = s.medium ∧
      (State.eodCut s b l).tape = s.tape ∧
      (State.eodCut s b l).engine = s.engine ∧
      (State.eodCut s b l).port = s.port ∧
      (State.eodCut s b l).writer = s.writer ∧
      (State.eodCut s b l).reader = s.reader ∧
      (State.eodCut s b l).head = s.head ∧
      (State.eodCut s b l).pending = s.pending ∧
      (State.eodCut s b l).settings = s.settings ∧
      (State.eodCut s b l).queue.slots.length = s.queue.slots.length ∧
      (State.eodCut s b l).gov.step = s.gov.step ∧
      (State.eodCut s b l).transport.pos = s.transport.pos := by
  unfold State.eodCut; split <;> simp

@[simp] theorem State.fineFound_frame (s : State) (f : Fine) (l : Location) :
      (State.fineFound s f l).pending = s.pending ∧
      (State.fineFound s f l).settings = s.settings ∧
      (State.fineFound s f l).queue.slots.length = s.queue.slots.length ∧
      (State.fineFound s f l).head.table.length = s.head.table.length ∧
      (State.fineFound s f l).gov.step = s.gov.step ∧
      (State.fineFound s f l).transport.pos = s.transport.pos := by
  unfold State.fineFound; split <;> simp

@[simp] theorem State.fineAtEnd_frame (s : State) (f : Fine) :
      (State.fineAtEnd s f).pending = s.pending ∧
      (State.fineAtEnd s f).settings = s.settings ∧
      (State.fineAtEnd s f).queue.slots.length = s.queue.slots.length ∧
      (State.fineAtEnd s f).head.table.length = s.head.table.length ∧
      (State.fineAtEnd s f).gov.step = s.gov.step ∧
      (State.fineAtEnd s f).transport.pos = s.transport.pos := by
  unfold State.fineAtEnd; split <;> simp

@[simp] theorem State.fineFailed_frame (s : State) (f : Fine) :
      (State.fineFailed s f).att = s.att ∧
      (State.fineFailed s f).medium = s.medium ∧
      (State.fineFailed s f).engine = s.engine ∧
      (State.fineFailed s f).port = s.port ∧
      (State.fineFailed s f).writer = s.writer ∧
      (State.fineFailed s f).head = s.head ∧
      (State.fineFailed s f).pending = s.pending ∧
      (State.fineFailed s f).settings = s.settings ∧
      (State.fineFailed s f).queue.slots.length = s.queue.slots.length ∧
      (State.fineFailed s f).gov.step = s.gov.step ∧
      (State.fineFailed s f).transport.pos = s.transport.pos := by
  unfold State.fineFailed; split <;> simp

@[simp] theorem State.fineSegment_frame (s : State) (f : Fine) (a : SegAddr) (r : SegRead) :
      (State.fineSegment s f a r).pending = s.pending ∧
      (State.fineSegment s f a r).settings = s.settings ∧
      (State.fineSegment s f a r).queue.slots.length = s.queue.slots.length ∧
      (State.fineSegment s f a r).head.table.length = s.head.table.length ∧
      (State.fineSegment s f a r).gov.step = s.gov.step ∧
      (State.fineSegment s f a r).transport.pos = s.transport.pos := by
  unfold State.fineSegment; split <;> simp

@[simp] theorem State.installImage_frame (s : State) (c : ImageContents) :
      (State.installImage s c).reader = s.reader ∧
      (State.installImage s c).pending = s.pending ∧
      (State.installImage s c).settings = s.settings ∧
      (State.installImage s c).queue.slots.length = s.queue.slots.length ∧
      (State.installImage s c).head.table.length = s.head.table.length ∧
      (State.installImage s c).gov.step = s.gov.step ∧
      (State.installImage s c).transport.pos = s.transport.pos := by
  simp [State.installImage]

@[simp] theorem State.rebuildReady_frame (s : State) (zones : List Zone) :
      (State.rebuildReady s zones).reader = s.reader ∧
      (State.rebuildReady s zones).pending = s.pending ∧
      (State.rebuildReady s zones).settings = s.settings ∧
      (State.rebuildReady s zones).queue.slots.length = s.queue.slots.length ∧
      (State.rebuildReady s zones).head.table.length = s.head.table.length ∧
      (State.rebuildReady s zones).gov.step = s.gov.step ∧
      (State.rebuildReady s zones).transport.pos = s.transport.pos := by
  simp [State.rebuildReady]

@[simp] theorem State.loadSegment_frame (s : State) (a : SegAddr) (zonesOnly : Bool) (r : SegRead) :
      (State.loadSegment s a zonesOnly r).reader = s.reader ∧
      (State.loadSegment s a zonesOnly r).pending = s.pending ∧
      (State.loadSegment s a zonesOnly r).settings = s.settings ∧
      (State.loadSegment s a zonesOnly r).queue.slots.length = s.queue.slots.length ∧
      (State.loadSegment s a zonesOnly r).head.table.length = s.head.table.length ∧
      (State.loadSegment s a zonesOnly r).gov.step = s.gov.step ∧
      (State.loadSegment s a zonesOnly r).transport.pos = s.transport.pos := by
  unfold State.loadSegment; dsimp only; repeat' split
  all_goals simp

@[simp] theorem State.endRebuild_frame (s : State) (r : Rebuild) (outcome : Code) :
      (State.endRebuild s r outcome).link = s.link ∧
      (State.endRebuild s r outcome).att = s.att ∧
      (State.endRebuild s r outcome).medium = s.medium ∧
      (State.endRebuild s r outcome).engine = s.engine ∧
      (State.endRebuild s r outcome).port = s.port ∧
      (State.endRebuild s r outcome).writer = s.writer ∧
      (State.endRebuild s r outcome).reader = s.reader ∧
      (State.endRebuild s r outcome).head = s.head ∧
      (State.endRebuild s r outcome).pending = s.pending ∧
      (State.endRebuild s r outcome).settings = s.settings ∧
      (State.endRebuild s r outcome).queue.slots.length = s.queue.slots.length ∧
      (State.endRebuild s r outcome).gov.step = s.gov.step ∧
      (State.endRebuild s r outcome).transport.pos = s.transport.pos := by
  unfold State.endRebuild; dsimp only; repeat' split
  all_goals simp

theorem State.rebuildAccept_frame (s : State) (r : Rebuild) (h0 : StripeHeader) (payload : List Byte) (p : State × Rebuild)
    (h : s.rebuildAccept r h0 payload = some p) :
      p.1.link = s.link ∧
      p.1.att = s.att ∧
      p.1.medium = s.medium ∧
      p.1.transport = s.transport ∧
      p.1.tape = s.tape ∧
      p.1.queue = s.queue ∧
      p.1.engine = s.engine ∧
      p.1.port = s.port ∧
      p.1.writer = s.writer ∧
      p.1.reader = s.reader ∧
      p.1.gov = s.gov ∧
      p.1.head = s.head ∧
      p.1.pending = s.pending ∧
      p.1.settings = s.settings := by
  unfold State.rebuildAccept at h
  dsimp only at h
  obtain ⟨c, -, hc⟩ := Option.map_eq_some_iff.mp h
  subst hc
  simp

@[simp] theorem State.rebuildOffer_frame (s : State) (r : Rebuild) (h : StripeHeader) (payload : List Byte) :
      (s.rebuildOffer r h payload).state.link = s.link ∧
      (s.rebuildOffer r h payload).state.att = s.att ∧
      (s.rebuildOffer r h payload).state.medium = s.medium ∧
      (s.rebuildOffer r h payload).state.transport = s.transport ∧
      (s.rebuildOffer r h payload).state.tape = s.tape ∧
      (s.rebuildOffer r h payload).state.queue = s.queue ∧
      (s.rebuildOffer r h payload).state.engine = s.engine ∧
      (s.rebuildOffer r h payload).state.port = s.port ∧
      (s.rebuildOffer r h payload).state.writer = s.writer ∧
      (s.rebuildOffer r h payload).state.reader = s.reader ∧
      (s.rebuildOffer r h payload).state.gov = s.gov ∧
      (s.rebuildOffer r h payload).state.head = s.head ∧
      (s.rebuildOffer r h payload).state.pending = s.pending ∧
      (s.rebuildOffer r h payload).state.settings = s.settings := by
  unfold State.rebuildOffer
  split
  · split
    · next q => simpa [Offered.state] using State.rebuildAccept_frame _ _ _ _ _ q
    · simp [Offered.state]
  · split <;> simp [Offered.state]

theorem State.rebuildOffer_result {s : State} {r : Rebuild} {h : StripeHeader} {payload : List Byte} {o : Offered}
    (q : s.rebuildOffer r h payload = o) :
      o.state.link = s.link ∧
      o.state.att = s.att ∧
      o.state.medium = s.medium ∧
      o.state.transport = s.transport ∧
      o.state.tape = s.tape ∧
      o.state.queue = s.queue ∧
      o.state.engine = s.engine ∧
      o.state.port = s.port ∧
      o.state.writer = s.writer ∧
      o.state.reader = s.reader ∧
      o.state.gov = s.gov ∧
      o.state.head = s.head ∧
      o.state.pending = s.pending ∧
      o.state.settings = s.settings := by
  subst q; simp

@[simp] theorem State.rebuildHeld_frame (recorded : Bool) (fuel : Nat) (s : State) (r : Rebuild) :
      (State.rebuildHeld recorded fuel s r).state.link = s.link ∧
      (State.rebuildHeld recorded fuel s r).state.att = s.att ∧
      (State.rebuildHeld recorded fuel s r).state.medium = s.medium ∧
      (State.rebuildHeld recorded fuel s r).state.transport = s.transport ∧
      (State.rebuildHeld recorded fuel s r).state.tape = s.tape ∧
      (State.rebuildHeld recorded fuel s r).state.engine = s.engine ∧
      (State.rebuildHeld recorded fuel s r).state.port = s.port ∧
      (State.rebuildHeld recorded fuel s r).state.writer = s.writer ∧
      (State.rebuildHeld recorded fuel s r).state.reader = s.reader ∧
      (State.rebuildHeld recorded fuel s r).state.gov = s.gov ∧
      (State.rebuildHeld recorded fuel s r).state.head = s.head ∧
      (State.rebuildHeld recorded fuel s r).state.pending = s.pending ∧
      (State.rebuildHeld recorded fuel s r).state.settings = s.settings ∧
      (State.rebuildHeld recorded fuel s r).state.queue.slots.length = s.queue.slots.length := by
  induction fuel generalizing s r with
  | zero => simp [State.rebuildHeld, Offered.state]
  | succ n ih =>
    unfold State.rebuildHeld
    dsimp only
    split
    · simp [Offered.state]
    · simp [Offered.state]
    · next i h payload _ _ =>
      have o := State.rebuildOffer_frame (s.freeSlot i) r h payload
      split
      · next q => rw [q] at o; simp [Offered.state] at o; simp_all [Offered.state]
      · next q => rw [q] at o; simp [Offered.state] at o; simp_all

theorem State.rebuildHeld_result {recorded : Bool} {fuel : Nat} {s : State} {r : Rebuild} {o : Offered} (q : State.rebuildHeld recorded fuel s r = o) :
      o.state.link = s.link ∧
      o.state.att = s.att ∧
      o.state.medium = s.medium ∧
      o.state.transport = s.transport ∧
      o.state.tape = s.tape ∧
      o.state.engine = s.engine ∧
      o.state.port = s.port ∧
      o.state.writer = s.writer ∧
      o.state.reader = s.reader ∧
      o.state.gov = s.gov ∧
      o.state.head = s.head ∧
      o.state.pending = s.pending ∧
      o.state.settings = s.settings ∧
      o.state.queue.slots.length = s.queue.slots.length := by
  subst q; simp

@[simp] theorem State.rebuildRetry_frame (s : State) (r : Rebuild) (m : Miss) :
      (State.rebuildRetry s r m).link = s.link ∧
      (State.rebuildRetry s r m).att = s.att ∧
      (State.rebuildRetry s r m).medium = s.medium ∧
      (State.rebuildRetry s r m).engine = s.engine ∧
      (State.rebuildRetry s r m).port = s.port ∧
      (State.rebuildRetry s r m).writer = s.writer ∧
      (State.rebuildRetry s r m).reader = s.reader ∧
      (State.rebuildRetry s r m).head = s.head ∧
      (State.rebuildRetry s r m).pending = s.pending ∧
      (State.rebuildRetry s r m).settings = s.settings ∧
      (State.rebuildRetry s r m).queue.slots.length = s.queue.slots.length ∧
      (State.rebuildRetry s r m).gov.step = s.gov.step ∧
      (State.rebuildRetry s r m).transport.pos = s.transport.pos := by
  unfold State.rebuildRetry; dsimp only; simp

@[simp] theorem State.rebuildOn_frame (atEnd : Bool) (fuel : Nat) (s : State) (r : Rebuild) :
      (State.rebuildOn atEnd fuel s r).link = s.link ∧
      (State.rebuildOn atEnd fuel s r).att = s.att ∧
      (State.rebuildOn atEnd fuel s r).medium = s.medium ∧
      (State.rebuildOn atEnd fuel s r).engine = s.engine ∧
      (State.rebuildOn atEnd fuel s r).port = s.port ∧
      (State.rebuildOn atEnd fuel s r).writer = s.writer ∧
      (State.rebuildOn atEnd fuel s r).reader = s.reader ∧
      (State.rebuildOn atEnd fuel s r).head = s.head ∧
      (State.rebuildOn atEnd fuel s r).pending = s.pending ∧
      (State.rebuildOn atEnd fuel s r).settings = s.settings ∧
      (State.rebuildOn atEnd fuel s r).queue.slots.length = s.queue.slots.length ∧
      (State.rebuildOn atEnd fuel s r).gov.step = s.gov.step ∧
      (State.rebuildOn atEnd fuel s r).transport.pos = s.transport.pos := by
  induction fuel generalizing s r with
  | zero => simp [State.rebuildOn]
  | succ n ih =>
    unfold State.rebuildOn
    split
    · split <;> simp
    · split
      · simp
      · split
        · split
          · simp
          · split <;> (rename_i q; have o := State.rebuildHeld_result q; simp [Offered.state] at o; simp [o, ih])
        · simp

@[simp] theorem State.rebuildBlank_frame (s : State) (r : Rebuild) :
      (State.rebuildBlank s r).link = s.link ∧
      (State.rebuildBlank s r).att = s.att ∧
      (State.rebuildBlank s r).medium = s.medium ∧
      (State.rebuildBlank s r).engine = s.engine ∧
      (State.rebuildBlank s r).port = s.port ∧
      (State.rebuildBlank s r).writer = s.writer ∧
      (State.rebuildBlank s r).reader = s.reader ∧
      (State.rebuildBlank s r).head = s.head ∧
      (State.rebuildBlank s r).pending = s.pending ∧
      (State.rebuildBlank s r).settings = s.settings ∧
      (State.rebuildBlank s r).queue.slots.length = s.queue.slots.length ∧
      (State.rebuildBlank s r).gov.step = s.gov.step ∧
      (State.rebuildBlank s r).transport.pos = s.transport.pos := by
  unfold State.rebuildBlank; dsimp only; repeat' split
  all_goals simp

@[simp] theorem State.keepDecoded_frame (s : State) (i : Nat) (h : StripeHeader) (payload : List Byte) (fails : Nat) :
      (State.keepDecoded s i h payload fails).link = s.link ∧
      (State.keepDecoded s i h payload fails).att = s.att ∧
      (State.keepDecoded s i h payload fails).medium = s.medium ∧
      (State.keepDecoded s i h payload fails).transport = s.transport ∧
      (State.keepDecoded s i h payload fails).tape = s.tape ∧
      (State.keepDecoded s i h payload fails).engine = s.engine ∧
      (State.keepDecoded s i h payload fails).port = s.port ∧
      (State.keepDecoded s i h payload fails).writer = s.writer ∧
      (State.keepDecoded s i h payload fails).reader = s.reader ∧
      (State.keepDecoded s i h payload fails).catalog = s.catalog ∧
      (State.keepDecoded s i h payload fails).gov = s.gov ∧
      (State.keepDecoded s i h payload fails).head = s.head ∧
      (State.keepDecoded s i h payload fails).pending = s.pending ∧
      (State.keepDecoded s i h payload fails).settings = s.settings ∧
      (State.keepDecoded s i h payload fails).queue.slots.length = s.queue.slots.length := by
  unfold State.keepDecoded; repeat' split
  all_goals simp

@[simp] theorem State.holdStripe_frame (s : State) (r : Rebuild) (i : Nat) (h : StripeHeader) (payload : List Byte) (fails : Nat) :
      (State.holdStripe s r i h payload fails).link = s.link ∧
      (State.holdStripe s r i h payload fails).att = s.att ∧
      (State.holdStripe s r i h payload fails).medium = s.medium ∧
      (State.holdStripe s r i h payload fails).transport = s.transport ∧
      (State.holdStripe s r i h payload fails).tape = s.tape ∧
      (State.holdStripe s r i h payload fails).engine = s.engine ∧
      (State.holdStripe s r i h payload fails).port = s.port ∧
      (State.holdStripe s r i h payload fails).writer = s.writer ∧
      (State.holdStripe s r i h payload fails).reader = s.reader ∧
      (State.holdStripe s r i h payload fails).catalog = s.catalog ∧
      (State.holdStripe s r i h payload fails).gov = s.gov ∧
      (State.holdStripe s r i h payload fails).head = s.head ∧
      (State.holdStripe s r i h payload fails).pending = s.pending ∧
      (State.holdStripe s r i h payload fails).settings = s.settings ∧
      (State.holdStripe s r i h payload fails).queue.slots.length = s.queue.slots.length := by
  unfold State.holdStripe; repeat' split
  all_goals simp

@[simp] theorem State.rebuildSegment_frame (s : State) (r : Rebuild) (i : Nat) (a : SegAddr) (x : SegRead) :
      (State.rebuildSegment s r i a x).link = s.link ∧
      (State.rebuildSegment s r i a x).att = s.att ∧
      (State.rebuildSegment s r i a x).medium = s.medium ∧
      (State.rebuildSegment s r i a x).engine = s.engine ∧
      (State.rebuildSegment s r i a x).port = s.port ∧
      (State.rebuildSegment s r i a x).writer = s.writer ∧
      (State.rebuildSegment s r i a x).reader = s.reader ∧
      (State.rebuildSegment s r i a x).head = s.head ∧
      (State.rebuildSegment s r i a x).pending = s.pending ∧
      (State.rebuildSegment s r i a x).settings = s.settings ∧
      (State.rebuildSegment s r i a x).queue.slots.length = s.queue.slots.length ∧
      (State.rebuildSegment s r i a x).gov.step = s.gov.step ∧
      (State.rebuildSegment s r i a x).transport.pos = s.transport.pos := by
  unfold State.rebuildSegment
  dsimp only
  split
  · simp
  · split
    · split
      · split
        · rename_i q; have o := State.rebuildOffer_result q; simp [Offered.state] at o; simp [o]
        · rename_i p
          have e := State.rebuildOffer_result p
          simp [Offered.state] at e
          split <;> (rename_i q; have o := State.rebuildHeld_result q; simp [Offered.state] at o; simp [e, o])
      · split <;> simp
    · simp

@[simp] theorem State.rebuildAtEnd_frame (s : State) (r : Rebuild) :
      (State.rebuildAtEnd s r).link = s.link ∧
      (State.rebuildAtEnd s r).att = s.att ∧
      (State.rebuildAtEnd s r).medium = s.medium ∧
      (State.rebuildAtEnd s r).engine = s.engine ∧
      (State.rebuildAtEnd s r).port = s.port ∧
      (State.rebuildAtEnd s r).writer = s.writer ∧
      (State.rebuildAtEnd s r).reader = s.reader ∧
      (State.rebuildAtEnd s r).head = s.head ∧
      (State.rebuildAtEnd s r).pending = s.pending ∧
      (State.rebuildAtEnd s r).settings = s.settings ∧
      (State.rebuildAtEnd s r).queue.slots.length = s.queue.slots.length ∧
      (State.rebuildAtEnd s r).gov.step = s.gov.step ∧
      (State.rebuildAtEnd s r).transport.pos = s.transport.pos := by
  unfold State.rebuildAtEnd; simp

@[simp] theorem State.scanExtent_frame (s : State) (m : MarkerScan) (i : Nat) (want last : Nat) (at_ : SegAddr) :
      (State.scanExtent s m i want last at_).link = s.link ∧
      (State.scanExtent s m i want last at_).att = s.att ∧
      (State.scanExtent s m i want last at_).medium = s.medium ∧
      (State.scanExtent s m i want last at_).tape = s.tape ∧
      (State.scanExtent s m i want last at_).engine = s.engine ∧
      (State.scanExtent s m i want last at_).port = s.port ∧
      (State.scanExtent s m i want last at_).writer = s.writer ∧
      (State.scanExtent s m i want last at_).reader = s.reader ∧
      (State.scanExtent s m i want last at_).head = s.head ∧
      (State.scanExtent s m i want last at_).pending = s.pending ∧
      (State.scanExtent s m i want last at_).settings = s.settings ∧
      (State.scanExtent s m i want last at_).queue.slots.length = s.queue.slots.length ∧
      (State.scanExtent s m i want last at_).gov.step = s.gov.step ∧
      (State.scanExtent s m i want last at_).transport.pos = s.transport.pos := by
  unfold State.scanExtent; dsimp only; repeat' split
  all_goals simp

@[simp] theorem State.spaceToEnd_frame (s : State) (passed : Nat) :
      (State.spaceToEnd s passed).att = s.att ∧
      (State.spaceToEnd s passed).medium = s.medium ∧
      (State.spaceToEnd s passed).engine = s.engine ∧
      (State.spaceToEnd s passed).port = s.port ∧
      (State.spaceToEnd s passed).writer = s.writer ∧
      (State.spaceToEnd s passed).head = s.head ∧
      (State.spaceToEnd s passed).pending = s.pending ∧
      (State.spaceToEnd s passed).settings = s.settings ∧
      (State.spaceToEnd s passed).queue.slots.length = s.queue.slots.length ∧
      (State.spaceToEnd s passed).gov.step = s.gov.step ∧
      (State.spaceToEnd s passed).transport.pos = s.transport.pos := by
  simp [State.spaceToEnd]

@[simp] theorem State.spaceToBeginning_frame (s : State) (passed : Nat) :
      (State.spaceToBeginning s passed).att = s.att ∧
      (State.spaceToBeginning s passed).medium = s.medium ∧
      (State.spaceToBeginning s passed).engine = s.engine ∧
      (State.spaceToBeginning s passed).port = s.port ∧
      (State.spaceToBeginning s passed).writer = s.writer ∧
      (State.spaceToBeginning s passed).head = s.head ∧
      (State.spaceToBeginning s passed).pending = s.pending ∧
      (State.spaceToBeginning s passed).settings = s.settings ∧
      (State.spaceToBeginning s passed).queue.slots.length = s.queue.slots.length ∧
      (State.spaceToBeginning s passed).gov.step = s.gov.step ∧
      (State.spaceToBeginning s passed).transport.pos = s.transport.pos := by
  simp [State.spaceToBeginning]

@[simp] theorem State.backwardExtentDone_frame (s : State) (m : MarkerScan) :
      (State.backwardExtentDone s m).att = s.att ∧
      (State.backwardExtentDone s m).medium = s.medium ∧
      (State.backwardExtentDone s m).engine = s.engine ∧
      (State.backwardExtentDone s m).port = s.port ∧
      (State.backwardExtentDone s m).writer = s.writer ∧
      (State.backwardExtentDone s m).head = s.head ∧
      (State.backwardExtentDone s m).pending = s.pending ∧
      (State.backwardExtentDone s m).settings = s.settings ∧
      (State.backwardExtentDone s m).queue.slots.length = s.queue.slots.length ∧
      (State.backwardExtentDone s m).gov.step = s.gov.step ∧
      (State.backwardExtentDone s m).transport.pos = s.transport.pos := by
  unfold State.backwardExtentDone; dsimp only; repeat' split
  all_goals simp

@[simp] theorem State.forwardExtentDone_frame (s : State) (m : MarkerScan) :
      (State.forwardExtentDone s m).att = s.att ∧
      (State.forwardExtentDone s m).medium = s.medium ∧
      (State.forwardExtentDone s m).engine = s.engine ∧
      (State.forwardExtentDone s m).port = s.port ∧
      (State.forwardExtentDone s m).writer = s.writer ∧
      (State.forwardExtentDone s m).head = s.head ∧
      (State.forwardExtentDone s m).pending = s.pending ∧
      (State.forwardExtentDone s m).settings = s.settings ∧
      (State.forwardExtentDone s m).queue.slots.length = s.queue.slots.length ∧
      (State.forwardExtentDone s m).gov.step = s.gov.step ∧
      (State.forwardExtentDone s m).transport.pos = s.transport.pos := by
  unfold State.forwardExtentDone; repeat' split
  all_goals simp

@[simp] theorem State.markersOnward_frame (s : State) (m : MarkerScan) :
      (State.markersOnward s m).att = s.att ∧
      (State.markersOnward s m).medium = s.medium ∧
      (State.markersOnward s m).engine = s.engine ∧
      (State.markersOnward s m).port = s.port ∧
      (State.markersOnward s m).writer = s.writer ∧
      (State.markersOnward s m).head = s.head ∧
      (State.markersOnward s m).pending = s.pending ∧
      (State.markersOnward s m).settings = s.settings ∧
      (State.markersOnward s m).queue.slots.length = s.queue.slots.length ∧
      (State.markersOnward s m).gov.step = s.gov.step ∧
      (State.markersOnward s m).transport.pos = s.transport.pos := by
  simp only [State.markersOnward]; repeat' split
  all_goals simp

@[simp] theorem State.examine_frame (s : State) (m : MarkerScan) (h : StripeHeader) (payload : List Byte) (a : SegAddr) :
      (State.examine s m h payload a).att = s.att ∧
      (State.examine s m h payload a).medium = s.medium ∧
      (State.examine s m h payload a).port = s.port ∧
      (State.examine s m h payload a).writer = s.writer ∧
      (State.examine s m h payload a).head = s.head ∧
      (State.examine s m h payload a).pending = s.pending ∧
      (State.examine s m h payload a).settings = s.settings ∧
      (State.examine s m h payload a).queue.slots.length = s.queue.slots.length ∧
      (State.examine s m h payload a).gov.step = s.gov.step ∧
      (State.examine s m h payload a).transport.pos = s.transport.pos := by
  unfold State.examine; dsimp only; repeat' split
  all_goals simp

@[simp] theorem State.markersExpired_frame (s : State) (m : MarkerScan) (x : Miss) :
      (State.markersExpired s m x).att = s.att ∧
      (State.markersExpired s m x).medium = s.medium ∧
      (State.markersExpired s m x).engine = s.engine ∧
      (State.markersExpired s m x).port = s.port ∧
      (State.markersExpired s m x).writer = s.writer ∧
      (State.markersExpired s m x).head = s.head ∧
      (State.markersExpired s m x).pending = s.pending ∧
      (State.markersExpired s m x).settings = s.settings ∧
      (State.markersExpired s m x).queue.slots.length = s.queue.slots.length ∧
      (State.markersExpired s m x).gov.step = s.gov.step ∧
      (State.markersExpired s m x).transport.pos = s.transport.pos := by
  unfold State.markersExpired; split <;> simp

@[simp] theorem State.examineHeld_frame (fuel : Nat) (s : State) :
      (State.examineHeld fuel s).att = s.att ∧
      (State.examineHeld fuel s).medium = s.medium ∧
      (State.examineHeld fuel s).port = s.port ∧
      (State.examineHeld fuel s).writer = s.writer ∧
      (State.examineHeld fuel s).head = s.head ∧
      (State.examineHeld fuel s).pending = s.pending ∧
      (State.examineHeld fuel s).settings = s.settings ∧
      (State.examineHeld fuel s).queue.slots.length = s.queue.slots.length ∧
      (State.examineHeld fuel s).gov.step = s.gov.step ∧
      (State.examineHeld fuel s).transport.pos = s.transport.pos := by
  induction fuel generalizing s with
  | zero => simp [State.examineHeld]
  | succ n ih =>
    unfold State.examineHeld
    repeat' split
    all_goals simp [ih]

@[simp] theorem State.markersSegment_frame (s : State) (m : MarkerScan) (i : Nat) (a : SegAddr) (x : SegRead) :
      (State.markersSegment s m i a x).att = s.att ∧
      (State.markersSegment s m i a x).medium = s.medium ∧
      (State.markersSegment s m i a x).port = s.port ∧
      (State.markersSegment s m i a x).writer = s.writer ∧
      (State.markersSegment s m i a x).head = s.head ∧
      (State.markersSegment s m i a x).pending = s.pending ∧
      (State.markersSegment s m i a x).settings = s.settings ∧
      (State.markersSegment s m i a x).queue.slots.length = s.queue.slots.length ∧
      (State.markersSegment s m i a x).gov.step = s.gov.step ∧
      (State.markersSegment s m i a x).transport.pos = s.transport.pos := by
  unfold State.markersSegment
  dsimp only
  repeat' split
  all_goals simp

@[simp] theorem State.markersAtEnd_frame (s : State) (m : MarkerScan) :
      (State.markersAtEnd s m).pending = s.pending ∧
      (State.markersAtEnd s m).settings = s.settings ∧
      (State.markersAtEnd s m).queue.slots.length = s.queue.slots.length ∧
      (State.markersAtEnd s m).head = s.head ∧
      (State.markersAtEnd s m).gov.step = s.gov.step ∧
      (State.markersAtEnd s m).transport.pos = s.transport.pos := by
  unfold State.markersAtEnd; split <;> simp

@[simp] theorem State.beginMarkers_frame (s : State) (forward : Bool) (n : Nat) :
      (State.beginMarkers s forward n).att = s.att ∧
      (State.beginMarkers s forward n).medium = s.medium ∧
      (State.beginMarkers s forward n).engine = s.engine ∧
      (State.beginMarkers s forward n).port = s.port ∧
      (State.beginMarkers s forward n).writer = s.writer ∧
      (State.beginMarkers s forward n).head = s.head ∧
      (State.beginMarkers s forward n).pending = s.pending ∧
      (State.beginMarkers s forward n).settings = s.settings ∧
      (State.beginMarkers s forward n).queue.slots.length = s.queue.slots.length ∧
      (State.beginMarkers s forward n).gov.step = s.gov.step ∧
      (State.beginMarkers s forward n).transport.pos = s.transport.pos := by
  unfold State.beginMarkers; dsimp only; repeat' split
  all_goals simp

/-! ### Operations of Machine/FlowOps.lean -/

@[simp] theorem State.beginLocate_frame (s : State) (t : LocateTarget) :
      (State.beginLocate s t).link = s.link ∧
      (State.beginLocate s t).att = s.att ∧
      (State.beginLocate s t).medium = s.medium ∧
      (State.beginLocate s t).tape = s.tape ∧
      (State.beginLocate s t).queue = s.queue ∧
      (State.beginLocate s t).engine = s.engine ∧
      (State.beginLocate s t).port = s.port ∧
      (State.beginLocate s t).writer = s.writer ∧
      (State.beginLocate s t).reader = s.reader ∧
      (State.beginLocate s t).head = s.head ∧
      (State.beginLocate s t).pending = s.pending ∧
      (State.beginLocate s t).settings = s.settings ∧
      (State.beginLocate s t).gov.step = s.gov.step ∧
      (State.beginLocate s t).transport.pos = s.transport.pos := by
  unfold State.beginLocate; dsimp only; repeat' split
  all_goals simp

@[simp] theorem State.beginRetire_frame (s : State) (b : Nat) :
      (State.beginRetire s b).pending = s.pending ∧
      (State.beginRetire s b).settings = s.settings ∧
      (State.beginRetire s b).queue.slots.length = s.queue.slots.length ∧
      (State.beginRetire s b).head.table.length = s.head.table.length ∧
      (State.beginRetire s b).gov.step = s.gov.step ∧
      (State.beginRetire s b).transport.pos = s.transport.pos := by
  unfold State.beginRetire; dsimp only; repeat' split
  all_goals simp

@[simp] theorem State.beginSpacing_frame (s : State) (o : Op) :
      (State.beginSpacing s o).link = s.link ∧
      (State.beginSpacing s o).att = s.att ∧
      (State.beginSpacing s o).medium = s.medium ∧
      (State.beginSpacing s o).tape = s.tape ∧
      (State.beginSpacing s o).port = s.port ∧
      (State.beginSpacing s o).writer = s.writer ∧
      (State.beginSpacing s o).catalog = s.catalog ∧
      (State.beginSpacing s o).head = s.head ∧
      (State.beginSpacing s o).pending = s.pending ∧
      (State.beginSpacing s o).settings = s.settings ∧
      (State.beginSpacing s o).queue.slots.length = s.queue.slots.length ∧
      (State.beginSpacing s o).gov.step = s.gov.step ∧
      (State.beginSpacing s o).transport.pos = s.transport.pos := by
  simp [State.beginSpacing]

@[simp] theorem State.beginSpaceBlocks_frame (s : State) (forward : Bool) (n : Nat) :
      (State.beginSpaceBlocks s forward n).att = s.att ∧
      (State.beginSpaceBlocks s forward n).medium = s.medium ∧
      (State.beginSpaceBlocks s forward n).engine = s.engine ∧
      (State.beginSpaceBlocks s forward n).port = s.port ∧
      (State.beginSpaceBlocks s forward n).writer = s.writer ∧
      (State.beginSpaceBlocks s forward n).head = s.head ∧
      (State.beginSpaceBlocks s forward n).pending = s.pending ∧
      (State.beginSpaceBlocks s forward n).settings = s.settings ∧
      (State.beginSpaceBlocks s forward n).queue.slots.length = s.queue.slots.length ∧
      (State.beginSpaceBlocks s forward n).gov.step = s.gov.step ∧
      (State.beginSpaceBlocks s forward n).transport.pos = s.transport.pos := by
  unfold State.beginSpaceBlocks; dsimp only; repeat' split
  all_goals simp

@[simp] theorem State.beginOwnWork_frame (s : State) :
      (State.beginOwnWork s).pending = s.pending ∧
      (State.beginOwnWork s).settings = s.settings ∧
      (State.beginOwnWork s).queue.slots.length = s.queue.slots.length ∧
      (State.beginOwnWork s).head.table.length = s.head.table.length ∧
      (State.beginOwnWork s).gov.step = s.gov.step ∧
      (State.beginOwnWork s).transport.pos = s.transport.pos := by
  unfold State.beginOwnWork; dsimp only; repeat' split
  all_goals simp

@[simp] theorem State.settleReader_frame (s : State) :
      (State.settleReader s).link = s.link ∧
      (State.settleReader s).att = s.att ∧
      (State.settleReader s).medium = s.medium ∧
      (State.settleReader s).transport = s.transport ∧
      (State.settleReader s).tape = s.tape ∧
      (State.settleReader s).queue = s.queue ∧
      (State.settleReader s).engine = s.engine ∧
      (State.settleReader s).port = s.port ∧
      (State.settleReader s).writer = s.writer ∧
      (State.settleReader s).catalog = s.catalog ∧
      (State.settleReader s).gov = s.gov ∧
      (State.settleReader s).head = s.head ∧
      (State.settleReader s).pending = s.pending ∧
      (State.settleReader s).settings = s.settings := by
  unfold State.settleReader; split <;> simp

@[simp] theorem State.settleStages_frame (s : State) :
      (State.settleStages s).link = s.link ∧
      (State.settleStages s).att = s.att ∧
      (State.settleStages s).medium = s.medium ∧
      (State.settleStages s).transport = s.transport ∧
      (State.settleStages s).tape = s.tape ∧
      (State.settleStages s).engine = s.engine ∧
      (State.settleStages s).port = s.port ∧
      (State.settleStages s).writer = s.writer ∧
      (State.settleStages s).reader = s.reader ∧
      (State.settleStages s).catalog = s.catalog ∧
      (State.settleStages s).gov = s.gov ∧
      (State.settleStages s).head = s.head ∧
      (State.settleStages s).pending = s.pending ∧
      (State.settleStages s).settings = s.settings ∧
      (State.settleStages s).queue.slots.length = s.queue.slots.length := by
  unfold State.settleStages; dsimp only; repeat' split
  all_goals simp

@[simp] theorem State.settle_frame (s : State) :
      (State.settle s).pending = s.pending ∧
      (State.settle s).settings = s.settings ∧
      (State.settle s).queue.slots.length = s.queue.slots.length ∧
      (State.settle s).head.table.length = s.head.table.length ∧
      (State.settle s).gov.step = s.gov.step ∧
      (State.settle s).transport.pos = s.transport.pos := by
  simp [State.settle]

@[simp] theorem State.noteUnloadFault_frame (s : State) :
      (State.noteUnloadFault s).link = s.link ∧
      (State.noteUnloadFault s).att = s.att ∧
      (State.noteUnloadFault s).transport = s.transport ∧
      (State.noteUnloadFault s).tape = s.tape ∧
      (State.noteUnloadFault s).queue = s.queue ∧
      (State.noteUnloadFault s).engine = s.engine ∧
      (State.noteUnloadFault s).port = s.port ∧
      (State.noteUnloadFault s).writer = s.writer ∧
      (State.noteUnloadFault s).reader = s.reader ∧
      (State.noteUnloadFault s).catalog = s.catalog ∧
      (State.noteUnloadFault s).gov = s.gov ∧
      (State.noteUnloadFault s).head = s.head ∧
      (State.noteUnloadFault s).pending = s.pending ∧
      (State.noteUnloadFault s).settings = s.settings := by
  unfold State.noteUnloadFault; repeat' split
  all_goals simp

@[simp] theorem State.rewindFault_frame (s : State) (byReel : Bool) :
      (State.rewindFault s byReel).link = s.link ∧
      (State.rewindFault s byReel).engine = s.engine ∧
      (State.rewindFault s byReel).port = s.port ∧
      (State.rewindFault s byReel).writer = s.writer ∧
      (State.rewindFault s byReel).reader = s.reader ∧
      (State.rewindFault s byReel).catalog = s.catalog ∧
      (State.rewindFault s byReel).head = s.head ∧
      (State.rewindFault s byReel).pending = s.pending ∧
      (State.rewindFault s byReel).settings = s.settings ∧
      (State.rewindFault s byReel).queue.slots.length = s.queue.slots.length ∧
      (State.rewindFault s byReel).gov.step = s.gov.step ∧
      (State.rewindFault s byReel).transport.pos = s.transport.pos := by
  unfold State.rewindFault; repeat' split
  all_goals simp

@[simp] theorem State.searchFault_frame (s : State) (code : Code) :
      (State.searchFault s code).att = s.att ∧
      (State.searchFault s code).medium = s.medium ∧
      (State.searchFault s code).engine = s.engine ∧
      (State.searchFault s code).port = s.port ∧
      (State.searchFault s code).writer = s.writer ∧
      (State.searchFault s code).head = s.head ∧
      (State.searchFault s code).pending = s.pending ∧
      (State.searchFault s code).settings = s.settings ∧
      (State.searchFault s code).queue.slots.length = s.queue.slots.length ∧
      (State.searchFault s code).gov.step = s.gov.step ∧
      (State.searchFault s code).transport.pos = s.transport.pos := by
  unfold State.searchFault; repeat' split
  all_goals simp

@[simp] theorem State.askerFault_frame (s : State) (code : Code) (byReel : Bool) (a : Asker) :
      (State.askerFault s code byReel a).pending = s.pending ∧
      (State.askerFault s code byReel a).settings = s.settings ∧
      (State.askerFault s code byReel a).queue.slots.length = s.queue.slots.length ∧
      (State.askerFault s code byReel a).head.table.length = s.head.table.length ∧
      (State.askerFault s code byReel a).gov.step = s.gov.step ∧
      (State.askerFault s code byReel a).transport.pos = s.transport.pos := by
  unfold State.askerFault; repeat' split
  all_goals simp

@[simp] theorem State.reportFault_frame (s : State) (code : Code) (a : Option Asker) :
      (State.reportFault s code a).pending = s.pending ∧
      (State.reportFault s code a).settings = s.settings ∧
      (State.reportFault s code a).queue.slots.length = s.queue.slots.length ∧
      (State.reportFault s code a).head.table.length = s.head.table.length ∧
      (State.reportFault s code a).gov.step = s.gov.step ∧
      (State.reportFault s code a).transport.pos = s.transport.pos := by
  unfold State.reportFault; dsimp only; repeat' split
  all_goals simp

@[simp] theorem State.positionLost_frame (s : State) :
      (State.positionLost s).pending = s.pending ∧
      (State.positionLost s).settings = s.settings ∧
      (State.positionLost s).queue.slots.length = s.queue.slots.length ∧
      (State.positionLost s).head.table.length = s.head.table.length ∧
      (State.positionLost s).gov.step = s.gov.step ∧
      (State.positionLost s).transport.pos = s.transport.pos := by
  simp [State.positionLost]

@[simp] theorem State.motorStalled_frame (s : State) :
      (State.motorStalled s).pending = s.pending ∧
      (State.motorStalled s).settings = s.settings ∧
      (State.motorStalled s).queue.slots.length = s.queue.slots.length ∧
      (State.motorStalled s).head.table.length = s.head.table.length ∧
      (State.motorStalled s).gov.step = s.gov.step ∧
      (State.motorStalled s).transport.pos = s.transport.pos := by
  unfold State.motorStalled; dsimp only; repeat' split
  all_goals simp

end Sys2Proof.Machine
end

