-- ==== Sys2Proof/Laws/FramesEvents.lean ====
section
/-! SUPPORT. What a segment boundary, the requests' and events' own operations leave as it was. -/

namespace Sys2Proof.Machine

/-! ### Operations of Machine/BoundaryOps.lean -/

@[simp] theorem State.passTach_frame (s : State) (n : Nat) :
      (State.passTach s n).link = s.link ∧
      (State.passTach s n).att = s.att ∧
      (State.passTach s n).engine = s.engine ∧
      (State.passTach s n).port = s.port ∧
      (State.passTach s n).writer = s.writer ∧
      (State.passTach s n).reader = s.reader ∧
      (State.passTach s n).catalog = s.catalog ∧
      (State.passTach s n).gov = s.gov ∧
      (State.passTach s n).head = s.head ∧
      (State.passTach s n).pending = s.pending ∧
      (State.passTach s n).settings = s.settings ∧
      (State.passTach s n).queue.slots.length = s.queue.slots.length ∧
      (State.passTach s n).transport.pos = s.transport.pos := by
  unfold State.passTach; split <;> simp

@[simp] theorem State.countMark_frame (s : State) :
      (State.countMark s).link = s.link ∧
      (State.countMark s).att = s.att ∧
      (State.countMark s).medium = s.medium ∧
      (State.countMark s).tape = s.tape ∧
      (State.countMark s).queue = s.queue ∧
      (State.countMark s).engine = s.engine ∧
      (State.countMark s).port = s.port ∧
      (State.countMark s).writer = s.writer ∧
      (State.countMark s).reader = s.reader ∧
      (State.countMark s).catalog = s.catalog ∧
      (State.countMark s).gov = s.gov ∧
      (State.countMark s).head = s.head ∧
      (State.countMark s).pending = s.pending ∧
      (State.countMark s).settings = s.settings ∧
      (State.countMark s).transport.pos = s.transport.pos := by
  unfold State.countMark
  simp

@[simp] theorem State.lockSynth_frame (s : State) :
      (State.lockSynth s).link = s.link ∧
      (State.lockSynth s).att = s.att ∧
      (State.lockSynth s).medium = s.medium ∧
      (State.lockSynth s).tape = s.tape ∧
      (State.lockSynth s).queue = s.queue ∧
      (State.lockSynth s).engine = s.engine ∧
      (State.lockSynth s).port = s.port ∧
      (State.lockSynth s).writer = s.writer ∧
      (State.lockSynth s).reader = s.reader ∧
      (State.lockSynth s).catalog = s.catalog ∧
      (State.lockSynth s).gov = s.gov ∧
      (State.lockSynth s).head = s.head ∧
      (State.lockSynth s).pending = s.pending ∧
      (State.lockSynth s).settings = s.settings ∧
      (State.lockSynth s).transport.pos = s.transport.pos := by
  unfold State.lockSynth; dsimp only; repeat' split
  all_goals simp

@[simp] theorem State.acquireSynth_frame (s : State) :
      (State.acquireSynth s).link = s.link ∧
      (State.acquireSynth s).att = s.att ∧
      (State.acquireSynth s).medium = s.medium ∧
      (State.acquireSynth s).tape = s.tape ∧
      (State.acquireSynth s).queue = s.queue ∧
      (State.acquireSynth s).engine = s.engine ∧
      (State.acquireSynth s).port = s.port ∧
      (State.acquireSynth s).writer = s.writer ∧
      (State.acquireSynth s).reader = s.reader ∧
      (State.acquireSynth s).catalog = s.catalog ∧
      (State.acquireSynth s).gov = s.gov ∧
      (State.acquireSynth s).head = s.head ∧
      (State.acquireSynth s).pending = s.pending ∧
      (State.acquireSynth s).settings = s.settings ∧
      (State.acquireSynth s).transport.pos = s.transport.pos := by
  unfold State.acquireSynth; split <;> simp

@[simp] theorem State.readResults_frame (s : State) (r : SegRead) :
      (State.readResults s r).link = s.link ∧
      (State.readResults s r).medium = s.medium ∧
      (State.readResults s r).transport = s.transport ∧
      (State.readResults s r).tape = s.tape ∧
      (State.readResults s r).queue = s.queue ∧
      (State.readResults s r).engine = s.engine ∧
      (State.readResults s r).port = s.port ∧
      (State.readResults s r).writer = s.writer ∧
      (State.readResults s r).reader = s.reader ∧
      (State.readResults s r).catalog = s.catalog ∧
      (State.readResults s r).gov = s.gov ∧
      (State.readResults s r).pending = s.pending ∧
      (State.readResults s r).settings = s.settings ∧
      (State.readResults s r).head.table.length = s.head.table.length := by
  unfold State.readResults; split <;> simp

@[simp] theorem State.catalogSegment_frame (s : State) (i : Nat) (a : SegAddr) (r : SegRead) :
      (State.catalogSegment s i a r).pending = s.pending ∧
      (State.catalogSegment s i a r).settings = s.settings ∧
      (State.catalogSegment s i a r).queue.slots.length = s.queue.slots.length ∧
      (State.catalogSegment s i a r).head.table.length = s.head.table.length ∧
      (State.catalogSegment s i a r).gov.step = s.gov.step ∧
      (State.catalogSegment s i a r).transport.pos = s.transport.pos := by
  unfold State.catalogSegment; split <;> simp

@[simp] theorem State.freeLoading_frame (s : State) (i : Nat) :
      (State.freeLoading s i).link = s.link ∧
      (State.freeLoading s i).att = s.att ∧
      (State.freeLoading s i).medium = s.medium ∧
      (State.freeLoading s i).transport = s.transport ∧
      (State.freeLoading s i).tape = s.tape ∧
      (State.freeLoading s i).engine = s.engine ∧
      (State.freeLoading s i).port = s.port ∧
      (State.freeLoading s i).writer = s.writer ∧
      (State.freeLoading s i).reader = s.reader ∧
      (State.freeLoading s i).catalog = s.catalog ∧
      (State.freeLoading s i).gov = s.gov ∧
      (State.freeLoading s i).head = s.head ∧
      (State.freeLoading s i).pending = s.pending ∧
      (State.freeLoading s i).settings = s.settings ∧
      (State.freeLoading s i).queue.slots.length = s.queue.slots.length := by
  unfold State.freeLoading; repeat' split
  all_goals simp

@[simp] theorem State.endRead_frame (s : State) (o : Owner) (i : Nat) (a : SegAddr) (reads : List TrackRead) (underrun : Bool) :
      (State.endRead s o i a reads underrun).pending = s.pending ∧
      (State.endRead s o i a reads underrun).settings = s.settings ∧
      (State.endRead s o i a reads underrun).queue.slots.length = s.queue.slots.length ∧
      (State.endRead s o i a reads underrun).head.table.length = s.head.table.length ∧
      (State.endRead s o i a reads underrun).gov.step = s.gov.step ∧
      (State.endRead s o i a reads underrun).transport.pos = s.transport.pos := by
  unfold State.endRead; dsimp only; repeat' split
  all_goals simp

@[simp] theorem State.endSegment_frame (s : State) (o : Owner) (a : SegAddr) (reads : List TrackRead) :
      (State.endSegment s o a reads).pending = s.pending ∧
      (State.endSegment s o a reads).settings = s.settings ∧
      (State.endSegment s o a reads).queue.slots.length = s.queue.slots.length ∧
      (State.endSegment s o a reads).head.table.length = s.head.table.length ∧
      (State.endSegment s o a reads).gov.step = s.gov.step ∧
      (State.endSegment s o a reads).transport.pos = s.transport.pos := by
  unfold State.endSegment; dsimp only; repeat' split
  all_goals simp

@[simp] theorem State.offerSave_frame (s : State) :
      (State.offerSave s).link = s.link ∧
      (State.offerSave s).att = s.att ∧
      (State.offerSave s).medium = s.medium ∧
      (State.offerSave s).tape = s.tape ∧
      (State.offerSave s).queue = s.queue ∧
      (State.offerSave s).engine = s.engine ∧
      (State.offerSave s).port = s.port ∧
      (State.offerSave s).writer = s.writer ∧
      (State.offerSave s).reader = s.reader ∧
      (State.offerSave s).catalog = s.catalog ∧
      (State.offerSave s).gov = s.gov ∧
      (State.offerSave s).head = s.head ∧
      (State.offerSave s).pending = s.pending ∧
      (State.offerSave s).settings = s.settings ∧
      (State.offerSave s).transport.pos = s.transport.pos := by
  unfold State.offerSave; dsimp only; repeat' split
  all_goals simp

@[simp] theorem State.beginCatalogCopy_frame (s : State) (a : SegAddr) :
      (State.beginCatalogCopy s a).link = s.link ∧
      (State.beginCatalogCopy s a).att = s.att ∧
      (State.beginCatalogCopy s a).medium = s.medium ∧
      (State.beginCatalogCopy s a).transport = s.transport ∧
      (State.beginCatalogCopy s a).queue = s.queue ∧
      (State.beginCatalogCopy s a).engine = s.engine ∧
      (State.beginCatalogCopy s a).port = s.port ∧
      (State.beginCatalogCopy s a).writer = s.writer ∧
      (State.beginCatalogCopy s a).reader = s.reader ∧
      (State.beginCatalogCopy s a).catalog = s.catalog ∧
      (State.beginCatalogCopy s a).gov = s.gov ∧
      (State.beginCatalogCopy s a).head = s.head ∧
      (State.beginCatalogCopy s a).pending = s.pending ∧
      (State.beginCatalogCopy s a).settings = s.settings := by
  unfold State.beginCatalogCopy; dsimp only; repeat' split
  all_goals simp

@[simp] theorem State.catalogVerdict_frame (s : State) (f : Flight) (fails : Nat) :
      (State.catalogVerdict s f fails).link = s.link ∧
      (State.catalogVerdict s f fails).att = s.att ∧
      (State.catalogVerdict s f fails).medium = s.medium ∧
      (State.catalogVerdict s f fails).tape = s.tape ∧
      (State.catalogVerdict s f fails).queue = s.queue ∧
      (State.catalogVerdict s f fails).engine = s.engine ∧
      (State.catalogVerdict s f fails).port = s.port ∧
      (State.catalogVerdict s f fails).writer = s.writer ∧
      (State.catalogVerdict s f fails).reader = s.reader ∧
      (State.catalogVerdict s f fails).gov = s.gov ∧
      (State.catalogVerdict s f fails).head = s.head ∧
      (State.catalogVerdict s f fails).pending = s.pending ∧
      (State.catalogVerdict s f fails).settings = s.settings ∧
      (State.catalogVerdict s f fails).transport.pos = s.transport.pos := by
  unfold State.catalogVerdict; dsimp only; repeat' split
  all_goals simp

@[simp] theorem State.saveStopped_frame (s : State) :
      (State.saveStopped s).reader = s.reader ∧
      (State.saveStopped s).pending = s.pending ∧
      (State.saveStopped s).settings = s.settings ∧
      (State.saveStopped s).queue.slots.length = s.queue.slots.length ∧
      (State.saveStopped s).head.table.length = s.head.table.length ∧
      (State.saveStopped s).gov.step = s.gov.step ∧
      (State.saveStopped s).transport.pos = s.transport.pos := by
  unfold State.saveStopped; repeat' split
  all_goals simp

@[simp] theorem State.refill_frame (s : State) :
      (State.refill s).att = s.att ∧
      (State.refill s).medium = s.medium ∧
      (State.refill s).tape = s.tape ∧
      (State.refill s).head = s.head ∧
      (State.refill s).pending = s.pending ∧
      (State.refill s).settings = s.settings ∧
      (State.refill s).queue.slots.length = s.queue.slots.length ∧
      (State.refill s).gov.step = s.gov.step ∧
      (State.refill s).transport.pos = s.transport.pos := by
  unfold State.refill; dsimp only; repeat' split
  all_goals simp

@[simp] theorem State.activate_frame (s : State) :
      (State.activate s).link = s.link ∧
      (State.activate s).att = s.att ∧
      (State.activate s).medium = s.medium ∧
      (State.activate s).tape = s.tape ∧
      (State.activate s).queue = s.queue ∧
      (State.activate s).engine = s.engine ∧
      (State.activate s).port = s.port ∧
      (State.activate s).writer = s.writer ∧
      (State.activate s).reader = s.reader ∧
      (State.activate s).catalog = s.catalog ∧
      (State.activate s).gov = s.gov ∧
      (State.activate s).head = s.head ∧
      (State.activate s).pending = s.pending ∧
      (State.activate s).settings = s.settings ∧
      (State.activate s).transport.pos = s.transport.pos := by
  unfold State.activate; dsimp only; repeat' split
  all_goals simp

@[simp] theorem State.takeCheck_frame (s : State) (f : Flight) (fails : List Bool) :
      (s.takeCheck f fails).state.link = s.link ∧
      (s.takeCheck f fails).state.att = s.att ∧
      (s.takeCheck f fails).state.medium = s.medium ∧
      (s.takeCheck f fails).state.engine = s.engine ∧
      (s.takeCheck f fails).state.port = s.port ∧
      (s.takeCheck f fails).state.writer = s.writer ∧
      (s.takeCheck f fails).state.reader = s.reader ∧
      (s.takeCheck f fails).state.gov = s.gov ∧
      (s.takeCheck f fails).state.head = s.head ∧
      (s.takeCheck f fails).state.pending = s.pending ∧
      (s.takeCheck f fails).state.settings = s.settings ∧
      (s.takeCheck f fails).state.queue.slots.length = s.queue.slots.length ∧
      (s.takeCheck f fails).state.transport.pos = s.transport.pos := by
  unfold State.takeCheck
  dsimp only
  split
  · simp
  · split <;> simp

@[simp] theorem State.placeRewrite_frame (s : State) (a : SegAddr) :
      (State.placeRewrite s a).link = s.link ∧
      (State.placeRewrite s a).att = s.att ∧
      (State.placeRewrite s a).medium = s.medium ∧
      (State.placeRewrite s a).tape = s.tape ∧
      (State.placeRewrite s a).engine = s.engine ∧
      (State.placeRewrite s a).port = s.port ∧
      (State.placeRewrite s a).reader = s.reader ∧
      (State.placeRewrite s a).gov = s.gov ∧
      (State.placeRewrite s a).head = s.head ∧
      (State.placeRewrite s a).pending = s.pending ∧
      (State.placeRewrite s a).settings = s.settings ∧
      (State.placeRewrite s a).queue.slots.length = s.queue.slots.length ∧
      (State.placeRewrite s a).transport.pos = s.transport.pos := by
  unfold State.placeRewrite
  repeat' split
  all_goals first
    | simp; done
    | (rename_i q; have := State.reserveFor_frame _ _ _ _ q; simp_all)

@[simp] theorem State.eraseGap_frame (s : State) :
      (State.eraseGap s).link = s.link ∧
      (State.eraseGap s).att = s.att ∧
      (State.eraseGap s).medium = s.medium ∧
      (State.eraseGap s).transport = s.transport ∧
      (State.eraseGap s).queue = s.queue ∧
      (State.eraseGap s).engine = s.engine ∧
      (State.eraseGap s).port = s.port ∧
      (State.eraseGap s).writer = s.writer ∧
      (State.eraseGap s).reader = s.reader ∧
      (State.eraseGap s).catalog = s.catalog ∧
      (State.eraseGap s).gov = s.gov ∧
      (State.eraseGap s).head = s.head ∧
      (State.eraseGap s).pending = s.pending ∧
      (State.eraseGap s).settings = s.settings := by
  unfold State.eraseGap
  simp

@[simp] theorem State.writeBoundary_frame (s : State) :
      (State.writeBoundary s).att = s.att ∧
      (State.writeBoundary s).medium = s.medium ∧
      (State.writeBoundary s).tape = s.tape ∧
      (State.writeBoundary s).reader = s.reader ∧
      (State.writeBoundary s).gov = s.gov ∧
      (State.writeBoundary s).head = s.head ∧
      (State.writeBoundary s).pending = s.pending ∧
      (State.writeBoundary s).settings = s.settings ∧
      (State.writeBoundary s).queue.slots.length = s.queue.slots.length ∧
      (State.writeBoundary s).transport.pos = s.transport.pos := by
  unfold State.writeBoundary; repeat' split
  all_goals simp

@[simp] theorem State.checkAt_frame (s : State) (a : SegAddr) (reads : List TrackRead) :
      (s.checkAt a reads).state.link = s.link ∧
      (s.checkAt a reads).state.att = s.att ∧
      (s.checkAt a reads).state.medium = s.medium ∧
      (s.checkAt a reads).state.engine = s.engine ∧
      (s.checkAt a reads).state.port = s.port ∧
      (s.checkAt a reads).state.writer = s.writer ∧
      (s.checkAt a reads).state.reader = s.reader ∧
      (s.checkAt a reads).state.gov = s.gov ∧
      (s.checkAt a reads).state.head = s.head ∧
      (s.checkAt a reads).state.pending = s.pending ∧
      (s.checkAt a reads).state.settings = s.settings ∧
      (s.checkAt a reads).state.queue.slots.length = s.queue.slots.length ∧
      (s.checkAt a reads).state.transport.pos = s.transport.pos := by
  unfold State.checkAt; split <;> simp

@[simp] theorem State.answerFailure_frame (s : State) (failed : Option Nat) :
      (State.answerFailure s failed).medium = s.medium ∧
      (State.answerFailure s failed).reader = s.reader ∧
      (State.answerFailure s failed).gov = s.gov ∧
      (State.answerFailure s failed).head = s.head ∧
      (State.answerFailure s failed).pending = s.pending ∧
      (State.answerFailure s failed).settings = s.settings ∧
      (State.answerFailure s failed).queue.slots.length = s.queue.slots.length ∧
      (State.answerFailure s failed).transport.pos = s.transport.pos := by
  unfold State.answerFailure; repeat' split
  all_goals simp

@[simp] theorem State.checkResults_frame (s : State) (due : Option Flight) (reads : List TrackRead) :
      (State.checkResults s due reads).link = s.link ∧
      (State.checkResults s due reads).medium = s.medium ∧
      (State.checkResults s due reads).transport = s.transport ∧
      (State.checkResults s due reads).tape = s.tape ∧
      (State.checkResults s due reads).queue = s.queue ∧
      (State.checkResults s due reads).engine = s.engine ∧
      (State.checkResults s due reads).port = s.port ∧
      (State.checkResults s due reads).writer = s.writer ∧
      (State.checkResults s due reads).reader = s.reader ∧
      (State.checkResults s due reads).catalog = s.catalog ∧
      (State.checkResults s due reads).gov = s.gov ∧
      (State.checkResults s due reads).pending = s.pending ∧
      (State.checkResults s due reads).settings = s.settings ∧
      (State.checkResults s due reads).head.table.length = s.head.table.length := by
  unfold State.checkResults; repeat' split
  all_goals simp

@[simp] theorem State.checkOnly_frame (s : State) (a : SegAddr) (reads : List TrackRead) :
      (State.checkOnly s a reads).reader = s.reader ∧
      (State.checkOnly s a reads).head = s.head ∧
      (State.checkOnly s a reads).pending = s.pending ∧
      (State.checkOnly s a reads).settings = s.settings ∧
      (State.checkOnly s a reads).queue.slots.length = s.queue.slots.length ∧
      (State.checkOnly s a reads).gov.step = s.gov.step ∧
      (State.checkOnly s a reads).transport.pos = s.transport.pos := by
  simp [State.checkOnly]

@[simp] theorem State.beginSegment_frame (s : State) (a : SegAddr) (reads : List TrackRead) :
      (State.beginSegment s a reads).pending = s.pending ∧
      (State.beginSegment s a reads).settings = s.settings ∧
      (State.beginSegment s a reads).queue.slots.length = s.queue.slots.length ∧
      (State.beginSegment s a reads).head.table.length = s.head.table.length ∧
      (State.beginSegment s a reads).gov.step = s.gov.step ∧
      (State.beginSegment s a reads).transport.pos = s.transport.pos := by
  unfold State.beginSegment
  extract_lets s1 due c returned s2 s3 s6 s7 s8 s9
  have k1 : s1.pending = s.pending ∧ s1.settings = s.settings ∧ s1.queue.slots.length = s.queue.slots.length ∧ s1.head.table.length = s.head.table.length ∧ s1.gov.step = s.gov.step ∧ s1.transport.pos = s.transport.pos := by simp [s1]
  have kc : c.state.pending = s1.pending ∧ c.state.settings = s1.settings ∧ c.state.queue.slots.length = s1.queue.slots.length ∧ c.state.head.table.length = s1.head.table.length ∧ c.state.gov.step = s1.gov.step ∧ c.state.transport.pos = s1.transport.pos := by simp [c]
  have k2 : s2.pending = c.state.pending ∧ s2.settings = c.state.settings ∧ s2.queue.slots.length = c.state.queue.slots.length ∧ s2.head.table.length = c.state.head.table.length ∧ s2.gov.step = c.state.gov.step ∧ s2.transport.pos = c.state.transport.pos := by simp only [s2]; split <;> simp
  have k3 : s3.pending = s2.pending ∧ s3.settings = s2.settings ∧ s3.queue.slots.length = s2.queue.slots.length ∧ s3.head.table.length = s2.head.table.length ∧ s3.gov.step = s2.gov.step ∧ s3.transport.pos = s2.transport.pos := by simp [s3]
  have k6 : s6.pending = s3.pending ∧ s6.settings = s3.settings ∧ s6.queue.slots.length = s3.queue.slots.length ∧ s6.head.table.length = s3.head.table.length ∧ s6.gov.step = s3.gov.step ∧ s6.transport.pos = s3.transport.pos := by simp [s6]
  have k7 : s7.pending = s6.pending ∧ s7.settings = s6.settings ∧ s7.queue.slots.length = s6.queue.slots.length ∧ s7.head.table.length = s6.head.table.length ∧ s7.gov.step = s6.gov.step ∧ s7.transport.pos = s6.transport.pos := by simp only [s7]; split <;> simp
  have k8 : s8.pending = s7.pending ∧ s8.settings = s7.settings ∧ s8.queue.slots.length = s7.queue.slots.length ∧ s8.head.table.length = s7.head.table.length ∧ s8.gov.step = s7.gov.step ∧ s8.transport.pos = s7.transport.pos := by simp only [s8]; split <;> simp
  have k9 : s9.pending = s8.pending ∧ s9.settings = s8.settings ∧ s9.queue.slots.length = s8.queue.slots.length ∧ s9.head.table.length = s8.head.table.length ∧ s9.gov.step = s8.gov.step ∧ s9.transport.pos = s8.transport.pos := by simp only [s9]; split <;> simp
  have k : s9.pending = s.pending ∧ s9.settings = s.settings ∧ s9.queue.slots.length = s.queue.slots.length ∧ s9.head.table.length = s.head.table.length ∧ s9.gov.step = s.gov.step ∧ s9.transport.pos = s.transport.pos := by
    simp only [k9, k8, k7, k6, k3, k2, kc, k1, and_self]
  clear_value s9
  simp [k]

@[simp] theorem State.unplan_frame (s : State) (a : SegAddr) :
      (State.unplan s a).link = s.link ∧
      (State.unplan s a).att = s.att ∧
      (State.unplan s a).medium = s.medium ∧
      (State.unplan s a).transport = s.transport ∧
      (State.unplan s a).tape = s.tape ∧
      (State.unplan s a).queue = s.queue ∧
      (State.unplan s a).engine = s.engine ∧
      (State.unplan s a).port = s.port ∧
      (State.unplan s a).writer = s.writer ∧
      (State.unplan s a).catalog = s.catalog ∧
      (State.unplan s a).gov = s.gov ∧
      (State.unplan s a).head = s.head ∧
      (State.unplan s a).pending = s.pending ∧
      (State.unplan s a).settings = s.settings := by
  unfold State.unplan; dsimp only; repeat' split
  all_goals simp

@[simp] theorem State.beginStop_frame (s : State) (a : SegAddr) (resume : Option SegAddr) :
      (State.beginStop s a resume).link = s.link ∧
      (State.beginStop s a resume).att = s.att ∧
      (State.beginStop s a resume).medium = s.medium ∧
      (State.beginStop s a resume).tape = s.tape ∧
      (State.beginStop s a resume).engine = s.engine ∧
      (State.beginStop s a resume).port = s.port ∧
      (State.beginStop s a resume).writer = s.writer ∧
      (State.beginStop s a resume).catalog = s.catalog ∧
      (State.beginStop s a resume).gov = s.gov ∧
      (State.beginStop s a resume).head = s.head ∧
      (State.beginStop s a resume).pending = s.pending ∧
      (State.beginStop s a resume).settings = s.settings ∧
      (State.beginStop s a resume).queue.slots.length = s.queue.slots.length ∧
      (State.beginStop s a resume).head.table.length = s.head.table.length ∧
      (State.beginStop s a resume).gov.step = s.gov.step ∧
      (State.beginStop s a resume).transport.pos = s.transport.pos := by
  simp [State.beginStop]

@[simp] theorem State.beginDemanded_frame (s : State) (a : SegAddr) :
      (State.beginDemanded s a).link = s.link ∧
      (State.beginDemanded s a).att = s.att ∧
      (State.beginDemanded s a).medium = s.medium ∧
      (State.beginDemanded s a).tape = s.tape ∧
      (State.beginDemanded s a).engine = s.engine ∧
      (State.beginDemanded s a).port = s.port ∧
      (State.beginDemanded s a).writer = s.writer ∧
      (State.beginDemanded s a).catalog = s.catalog ∧
      (State.beginDemanded s a).gov = s.gov ∧
      (State.beginDemanded s a).head = s.head ∧
      (State.beginDemanded s a).pending = s.pending ∧
      (State.beginDemanded s a).settings = s.settings ∧
      (State.beginDemanded s a).queue.slots.length = s.queue.slots.length ∧
      (State.beginDemanded s a).head.table.length = s.head.table.length ∧
      (State.beginDemanded s a).gov.step = s.gov.step ∧
      (State.beginDemanded s a).transport.pos = s.transport.pos := by
  unfold State.beginDemanded; repeat' split
  all_goals simp

@[simp] theorem State.endWrap_frame (s : State) :
      (State.endWrap s).link = s.link ∧
      (State.endWrap s).att = s.att ∧
      (State.endWrap s).medium = s.medium ∧
      (State.endWrap s).tape = s.tape ∧
      (State.endWrap s).engine = s.engine ∧
      (State.endWrap s).port = s.port ∧
      (State.endWrap s).writer = s.writer ∧
      (State.endWrap s).catalog = s.catalog ∧
      (State.endWrap s).gov = s.gov ∧
      (State.endWrap s).head = s.head ∧
      (State.endWrap s).pending = s.pending ∧
      (State.endWrap s).settings = s.settings ∧
      (State.endWrap s).queue.slots.length = s.queue.slots.length ∧
      (State.endWrap s).transport.pos = s.transport.pos := by
  unfold State.endWrap; dsimp only; repeat' split
  all_goals simp

@[simp] theorem State.moveOn_frame (s : State) (upstream : Bool) :
      (State.moveOn s upstream).link = s.link ∧
      (State.moveOn s upstream).att = s.att ∧
      (State.moveOn s upstream).medium = s.medium ∧
      (State.moveOn s upstream).tape = s.tape ∧
      (State.moveOn s upstream).queue = s.queue ∧
      (State.moveOn s upstream).engine = s.engine ∧
      (State.moveOn s upstream).port = s.port ∧
      (State.moveOn s upstream).writer = s.writer ∧
      (State.moveOn s upstream).reader = s.reader ∧
      (State.moveOn s upstream).catalog = s.catalog ∧
      (State.moveOn s upstream).gov = s.gov ∧
      (State.moveOn s upstream).head = s.head ∧
      (State.moveOn s upstream).pending = s.pending ∧
      (State.moveOn s upstream).settings = s.settings := by
  simp [State.moveOn]

@[simp] theorem State.moveUncounted_frame (s : State) (upstream : Bool) :
      (State.moveUncounted s upstream).link = s.link ∧
      (State.moveUncounted s upstream).att = s.att ∧
      (State.moveUncounted s upstream).medium = s.medium ∧
      (State.moveUncounted s upstream).tape = s.tape ∧
      (State.moveUncounted s upstream).queue = s.queue ∧
      (State.moveUncounted s upstream).engine = s.engine ∧
      (State.moveUncounted s upstream).port = s.port ∧
      (State.moveUncounted s upstream).writer = s.writer ∧
      (State.moveUncounted s upstream).reader = s.reader ∧
      (State.moveUncounted s upstream).catalog = s.catalog ∧
      (State.moveUncounted s upstream).gov = s.gov ∧
      (State.moveUncounted s upstream).head = s.head ∧
      (State.moveUncounted s upstream).pending = s.pending ∧
      (State.moveUncounted s upstream).settings = s.settings := by
  simp [State.moveUncounted]

@[simp] theorem State.passBoundary_frame (s : State) (upstream : Bool) :
      (State.passBoundary s upstream).pending = s.pending ∧
      (State.passBoundary s upstream).settings = s.settings ∧
      (State.passBoundary s upstream).queue.slots.length = s.queue.slots.length ∧
      (State.passBoundary s upstream).head.table.length = s.head.table.length ∧
      (State.passBoundary s upstream).gov.step = s.gov.step := by
  unfold State.passBoundary; dsimp only; repeat' split
  all_goals simp

@[simp] theorem State.repassBoundary_frame (s : State) :
      (State.repassBoundary s).pending = s.pending ∧
      (State.repassBoundary s).settings = s.settings ∧
      (State.repassBoundary s).queue.slots.length = s.queue.slots.length ∧
      (State.repassBoundary s).head.table.length = s.head.table.length ∧
      (State.repassBoundary s).gov.step = s.gov.step := by
  unfold State.repassBoundary; dsimp only; simp

@[simp] theorem State.backOver_frame (s : State) :
      (State.backOver s).pending = s.pending ∧
      (State.backOver s).settings = s.settings ∧
      (State.backOver s).queue.slots.length = s.queue.slots.length ∧
      (State.backOver s).head.table.length = s.head.table.length ∧
      (State.backOver s).gov.step = s.gov.step := by
  unfold State.backOver; dsimp only; simp

@[simp] theorem State.barrenBoundary_frame (s : State) (upstream : Bool) :
      (State.barrenBoundary s upstream).pending = s.pending ∧
      (State.barrenBoundary s upstream).settings = s.settings ∧
      (State.barrenBoundary s upstream).queue.slots.length = s.queue.slots.length ∧
      (State.barrenBoundary s upstream).head.table.length = s.head.table.length ∧
      (State.barrenBoundary s upstream).gov.step = s.gov.step := by
  unfold State.barrenBoundary; dsimp only; repeat' split
  all_goals simp

@[simp] theorem State.backhitchBoundary_frame (s : State) (upstream : Bool) (reads : List TrackRead) :
      (State.backhitchBoundary s upstream reads).pending = s.pending ∧
      (State.backhitchBoundary s upstream reads).settings = s.settings ∧
      (State.backhitchBoundary s upstream reads).queue.slots.length = s.queue.slots.length ∧
      (State.backhitchBoundary s upstream reads).head.table.length = s.head.table.length ∧
      (State.backhitchBoundary s upstream reads).gov.step = s.gov.step := by
  unfold State.backhitchBoundary; dsimp only; repeat' split
  all_goals simp

@[simp] theorem State.runOn_frame (s : State) (t : SegAddr) :
      (State.runOn s t).tape = s.tape ∧
      (State.runOn s t).head = s.head ∧
      (State.runOn s t).pending = s.pending ∧
      (State.runOn s t).settings = s.settings ∧
      (State.runOn s t).queue.slots.length = s.queue.slots.length ∧
      (State.runOn s t).gov.step = s.gov.step ∧
      (State.runOn s t).transport.pos = s.transport.pos := by
  unfold State.runOn; dsimp only; repeat' split
  all_goals simp

@[simp] theorem State.streamBoundary_frame (s : State) (o : Owner) (r : BoundaryReads) :
      (State.streamBoundary s o r).pending = s.pending ∧
      (State.streamBoundary s o r).settings = s.settings ∧
      (State.streamBoundary s o r).queue.slots.length = s.queue.slots.length ∧
      (State.streamBoundary s o r).head.table.length = s.head.table.length ∧
      (State.streamBoundary s o r).gov.step = s.gov.step := by
  unfold State.streamBoundary; dsimp only; repeat' split
  all_goals simp

@[simp] theorem State.turnaroundBoundary_frame (s : State) (r : BoundaryReads) :
      (State.turnaroundBoundary s r).pending = s.pending ∧
      (State.turnaroundBoundary s r).settings = s.settings ∧
      (State.turnaroundBoundary s r).queue.slots.length = s.queue.slots.length ∧
      (State.turnaroundBoundary s r).head.table.length = s.head.table.length ∧
      (State.turnaroundBoundary s r).gov.step = s.gov.step := by
  unfold State.turnaroundBoundary; dsimp only; repeat' split
  all_goals simp

@[simp] theorem State.crossBoundary_frame (s : State) (upstream : Bool) (r : BoundaryReads) :
      (State.crossBoundary s upstream r).pending = s.pending ∧
      (State.crossBoundary s upstream r).settings = s.settings ∧
      (State.crossBoundary s upstream r).queue.slots.length = s.queue.slots.length ∧
      (State.crossBoundary s upstream r).head.table.length = s.head.table.length ∧
      (State.crossBoundary s upstream r).gov.step = s.gov.step := by
  unfold State.crossBoundary; dsimp only; repeat' split
  all_goals simp

@[simp] theorem State.headStep_frame (s : State) :
      (State.headStep s).link = s.link ∧
      (State.headStep s).att = s.att ∧
      (State.headStep s).medium = s.medium ∧
      (State.headStep s).tape = s.tape ∧
      (State.headStep s).queue = s.queue ∧
      (State.headStep s).engine = s.engine ∧
      (State.headStep s).port = s.port ∧
      (State.headStep s).writer = s.writer ∧
      (State.headStep s).reader = s.reader ∧
      (State.headStep s).catalog = s.catalog ∧
      (State.headStep s).gov = s.gov ∧
      (State.headStep s).head = s.head ∧
      (State.headStep s).pending = s.pending ∧
      (State.headStep s).settings = s.settings := by
  unfold State.headStep; repeat' split
  all_goals simp

@[simp] theorem State.boundary_frame (s : State) (upstream : Bool) (r : BoundaryReads) :
      (State.boundary s upstream r).pending = s.pending ∧
      (State.boundary s upstream r).settings = s.settings ∧
      (State.boundary s upstream r).queue.slots.length = s.queue.slots.length ∧
      (State.boundary s upstream r).head.table.length = s.head.table.length ∧
      (State.boundary s upstream r).gov.step = s.gov.step := by
  unfold State.boundary; repeat' split
  all_goals simp

@[simp] theorem State.seeMark_frame (s : State) :
      (State.seeMark s).link = s.link ∧
      (State.seeMark s).att = s.att ∧
      (State.seeMark s).medium = s.medium ∧
      (State.seeMark s).tape = s.tape ∧
      (State.seeMark s).queue = s.queue ∧
      (State.seeMark s).engine = s.engine ∧
      (State.seeMark s).port = s.port ∧
      (State.seeMark s).writer = s.writer ∧
      (State.seeMark s).reader = s.reader ∧
      (State.seeMark s).catalog = s.catalog ∧
      (State.seeMark s).gov = s.gov ∧
      (State.seeMark s).head = s.head ∧
      (State.seeMark s).pending = s.pending ∧
      (State.seeMark s).settings = s.settings ∧
      (State.seeMark s).transport.pos = s.transport.pos := by
  unfold State.seeMark
  simp

@[simp] theorem State.catchUp_frame (n : Nat) (rs : List BoundaryReads) (s : State) :
      (State.catchUp n rs s).pending = s.pending ∧
      (State.catchUp n rs s).settings = s.settings ∧
      (State.catchUp n rs s).queue.slots.length = s.queue.slots.length ∧
      (State.catchUp n rs s).head.table.length = s.head.table.length ∧
      (State.catchUp n rs s).gov.step = s.gov.step := by
  induction n generalizing rs s with
  | zero => simp [State.catchUp]
  | succ n ih => simp [State.catchUp, ih]

@[simp] theorem State.captureMark_frame (s : State) (seg : Nat) (reads : List BoundaryReads) :
      (State.captureMark s seg reads).pending = s.pending ∧
      (State.captureMark s seg reads).settings = s.settings ∧
      (State.captureMark s seg reads).queue.slots.length = s.queue.slots.length ∧
      (State.captureMark s seg reads).head.table.length = s.head.table.length ∧
      (State.captureMark s seg reads).gov.step = s.gov.step := by
  unfold State.captureMark; dsimp only; repeat' split
  all_goals simp

@[simp] theorem State.reacquired_frame (s : State) (req : MotionReq) (seg : Nat) :
      (State.reacquired s req seg).link = s.link ∧
      (State.reacquired s req seg).att = s.att ∧
      (State.reacquired s req seg).medium = s.medium ∧
      (State.reacquired s req seg).engine = s.engine ∧
      (State.reacquired s req seg).port = s.port ∧
      (State.reacquired s req seg).writer = s.writer ∧
      (State.reacquired s req seg).reader = s.reader ∧
      (State.reacquired s req seg).catalog = s.catalog ∧
      (State.reacquired s req seg).head = s.head ∧
      (State.reacquired s req seg).pending = s.pending ∧
      (State.reacquired s req seg).settings = s.settings ∧
      (State.reacquired s req seg).queue.slots.length = s.queue.slots.length ∧
      (State.reacquired s req seg).gov.step = s.gov.step := by
  unfold State.reacquired; dsimp only; repeat' split
  all_goals simp

/-- A request that waits goes on waiting at the first mark of a re-acquisition (log 86). -/
theorem State.reacquired_deferred (s : State) (req : MotionReq) (seg : Nat) :
    (s.reacquired req seg).transport.deferred = s.transport.deferred := by
  simp only [State.reacquired]; split <;> rfl

/-! ### Operations of Machine/Requests.lean -/

@[simp] theorem State.handStep_frame (s : State) :
      (State.handStep s).link = s.link ∧
      (State.handStep s).att = s.att ∧
      (State.handStep s).medium = s.medium ∧
      (State.handStep s).tape = s.tape ∧
      (State.handStep s).queue = s.queue ∧
      (State.handStep s).engine = s.engine ∧
      (State.handStep s).port = s.port ∧
      (State.handStep s).writer = s.writer ∧
      (State.handStep s).reader = s.reader ∧
      (State.handStep s).catalog = s.catalog ∧
      (State.handStep s).head = s.head ∧
      (State.handStep s).pending = s.pending ∧
      (State.handStep s).settings = s.settings ∧
      (State.handStep s).gov.step = s.gov.step ∧
      (State.handStep s).transport.pos = s.transport.pos := by
  simp [State.handStep]

@[simp] theorem State.moveIntoRange_frame (s : State) :
      (State.moveIntoRange s).link = s.link ∧
      (State.moveIntoRange s).att = s.att ∧
      (State.moveIntoRange s).medium = s.medium ∧
      (State.moveIntoRange s).tape = s.tape ∧
      (State.moveIntoRange s).queue = s.queue ∧
      (State.moveIntoRange s).engine = s.engine ∧
      (State.moveIntoRange s).port = s.port ∧
      (State.moveIntoRange s).writer = s.writer ∧
      (State.moveIntoRange s).reader = s.reader ∧
      (State.moveIntoRange s).catalog = s.catalog ∧
      (State.moveIntoRange s).head = s.head ∧
      (State.moveIntoRange s).pending = s.pending ∧
      (State.moveIntoRange s).settings = s.settings ∧
      (State.moveIntoRange s).transport.pos = s.transport.pos := by
  unfold State.moveIntoRange; dsimp only; repeat' split
  all_goals simp

@[simp] theorem State.applySettings_frame (s : State) (v : Settings) (timeout : Bool) :
      (State.applySettings s v timeout).link = s.link ∧
      (State.applySettings s v timeout).medium = s.medium ∧
      (State.applySettings s v timeout).tape = s.tape ∧
      (State.applySettings s v timeout).queue = s.queue ∧
      (State.applySettings s v timeout).engine = s.engine ∧
      (State.applySettings s v timeout).port = s.port ∧
      (State.applySettings s v timeout).writer = s.writer ∧
      (State.applySettings s v timeout).reader = s.reader ∧
      (State.applySettings s v timeout).catalog = s.catalog ∧
      (State.applySettings s v timeout).pending = s.pending ∧
      (State.applySettings s v timeout).head.table.length = s.head.table.length ∧
      (State.applySettings s v timeout).transport.pos = s.transport.pos := by
  simp [State.applySettings]

@[simp] theorem State.setZone_frame (s : State) (tag : Byte) (i : Nat) (z : Zone) :
      (State.setZone s tag i z).att = s.att ∧
      (State.setZone s tag i z).transport = s.transport ∧
      (State.setZone s tag i z).tape = s.tape ∧
      (State.setZone s tag i z).queue = s.queue ∧
      (State.setZone s tag i z).engine = s.engine ∧
      (State.setZone s tag i z).port = s.port ∧
      (State.setZone s tag i z).writer = s.writer ∧
      (State.setZone s tag i z).reader = s.reader ∧
      (State.setZone s tag i z).gov = s.gov ∧
      (State.setZone s tag i z).head = s.head ∧
      (State.setZone s tag i z).pending = s.pending ∧
      (State.setZone s tag i z).settings = s.settings := by
  unfold State.setZone; dsimp only; repeat' split
  all_goals simp

@[simp] theorem State.unflush_frame (s : State) :
      (State.unflush s).link = s.link ∧
      (State.unflush s).att = s.att ∧
      (State.unflush s).medium = s.medium ∧
      (State.unflush s).transport = s.transport ∧
      (State.unflush s).tape = s.tape ∧
      (State.unflush s).queue = s.queue ∧
      (State.unflush s).engine = s.engine ∧
      (State.unflush s).port = s.port ∧
      (State.unflush s).reader = s.reader ∧
      (State.unflush s).catalog = s.catalog ∧
      (State.unflush s).gov = s.gov ∧
      (State.unflush s).head = s.head ∧
      (State.unflush s).pending = s.pending ∧
      (State.unflush s).settings = s.settings := by
  simp [State.unflush]

@[simp] theorem State.abortFlushing_frame (s : State) (o : Op) :
      (State.abortFlushing s o).att = s.att ∧
      (State.abortFlushing s o).medium = s.medium ∧
      (State.abortFlushing s o).transport = s.transport ∧
      (State.abortFlushing s o).tape = s.tape ∧
      (State.abortFlushing s o).queue = s.queue ∧
      (State.abortFlushing s o).engine = s.engine ∧
      (State.abortFlushing s o).port = s.port ∧
      (State.abortFlushing s o).reader = s.reader ∧
      (State.abortFlushing s o).gov = s.gov ∧
      (State.abortFlushing s o).head = s.head ∧
      (State.abortFlushing s o).pending = s.pending ∧
      (State.abortFlushing s o).settings = s.settings := by
  unfold State.abortFlushing; split <;> simp

@[simp] theorem State.abortWrite_frame (s : State) :
      (State.abortWrite s).att = s.att ∧
      (State.abortWrite s).medium = s.medium ∧
      (State.abortWrite s).transport = s.transport ∧
      (State.abortWrite s).tape = s.tape ∧
      (State.abortWrite s).queue = s.queue ∧
      (State.abortWrite s).reader = s.reader ∧
      (State.abortWrite s).catalog = s.catalog ∧
      (State.abortWrite s).gov = s.gov ∧
      (State.abortWrite s).head = s.head ∧
      (State.abortWrite s).pending = s.pending ∧
      (State.abortWrite s).settings = s.settings := by
  unfold State.abortWrite; dsimp only; repeat' split
  all_goals simp

@[simp] theorem State.abortOp_frame (s : State) (o : Outstanding) :
      (State.abortOp s o).att = s.att ∧
      (State.abortOp s o).medium = s.medium ∧
      (State.abortOp s o).pending = s.pending ∧
      (State.abortOp s o).settings = s.settings ∧
      (State.abortOp s o).queue.slots.length = s.queue.slots.length ∧
      (State.abortOp s o).head.table.length = s.head.table.length ∧
      (State.abortOp s o).gov.step = s.gov.step ∧
      (State.abortOp s o).transport.pos = s.transport.pos := by
  simp only [State.abortOp]; repeat' split
  all_goals simp

@[simp] theorem State.resetMotion_frame (s : State) :
      (State.resetMotion s).link = s.link ∧
      (State.resetMotion s).att = s.att ∧
      (State.resetMotion s).medium = s.medium ∧
      (State.resetMotion s).engine = s.engine ∧
      (State.resetMotion s).port = s.port ∧
      (State.resetMotion s).writer = s.writer ∧
      (State.resetMotion s).reader = s.reader ∧
      (State.resetMotion s).catalog = s.catalog ∧
      (State.resetMotion s).head = s.head ∧
      (State.resetMotion s).pending = s.pending ∧
      (State.resetMotion s).settings = s.settings ∧
      (State.resetMotion s).queue.slots.length = s.queue.slots.length ∧
      (State.resetMotion s).gov.step = s.gov.step ∧
      (State.resetMotion s).transport.pos = s.transport.pos := by
  unfold State.resetMotion; dsimp only; repeat' split
  all_goals simp

@[simp] theorem State.resetCm_frame (s : State) :
      (State.resetCm s).link = s.link ∧
      (State.resetCm s).att = s.att ∧
      (State.resetCm s).transport = s.transport ∧
      (State.resetCm s).tape = s.tape ∧
      (State.resetCm s).queue = s.queue ∧
      (State.resetCm s).engine = s.engine ∧
      (State.resetCm s).port = s.port ∧
      (State.resetCm s).writer = s.writer ∧
      (State.resetCm s).reader = s.reader ∧
      (State.resetCm s).catalog = s.catalog ∧
      (State.resetCm s).gov = s.gov ∧
      (State.resetCm s).head = s.head ∧
      (State.resetCm s).pending = s.pending ∧
      (State.resetCm s).settings = s.settings := by
  simp [State.resetCm]

@[simp] theorem State.resetCm_medium_state (s : State) : (State.resetCm s).medium.state = s.medium.state := rfl

@[simp] theorem State.resetQueue_frame (s : State) :
      (State.resetQueue s).link = s.link ∧
      (State.resetQueue s).att = s.att ∧
      (State.resetQueue s).medium = s.medium ∧
      (State.resetQueue s).tape = s.tape ∧
      (State.resetQueue s).head = s.head ∧
      (State.resetQueue s).pending = s.pending ∧
      (State.resetQueue s).settings = s.settings ∧
      (State.resetQueue s).gov.step = s.gov.step ∧
      (State.resetQueue s).transport.pos = s.transport.pos := by
  simp [State.resetQueue]

@[simp] theorem State.resetOp_frame (t s : State) (o : Op) :
      (State.resetOp t s o).att = t.att ∧
      (State.resetOp t s o).medium = t.medium ∧
      (State.resetOp t s o).transport = t.transport ∧
      (State.resetOp t s o).tape = t.tape ∧
      (State.resetOp t s o).queue = t.queue ∧
      (State.resetOp t s o).engine = t.engine ∧
      (State.resetOp t s o).port = t.port ∧
      (State.resetOp t s o).writer = t.writer ∧
      (State.resetOp t s o).reader = t.reader ∧
      (State.resetOp t s o).catalog = t.catalog ∧
      (State.resetOp t s o).gov = t.gov ∧
      (State.resetOp t s o).head = t.head ∧
      (State.resetOp t s o).pending = t.pending ∧
      (State.resetOp t s o).settings = t.settings := by
  unfold State.resetOp; repeat' split
  all_goals simp

@[simp] theorem State.resetMedium_frame (s : State) :
      (State.resetMedium s).link = s.link ∧
      (State.resetMedium s).engine = s.engine ∧
      (State.resetMedium s).port = s.port ∧
      (State.resetMedium s).reader = s.reader ∧
      (State.resetMedium s).gov = s.gov ∧
      (State.resetMedium s).pending = s.pending ∧
      (State.resetMedium s).settings = s.settings ∧
      (State.resetMedium s).queue.slots.length = s.queue.slots.length ∧
      (State.resetMedium s).head.table.length = s.head.table.length ∧
      (State.resetMedium s).transport.pos = s.transport.pos := by
  unfold State.resetMedium; dsimp only; repeat' split
  all_goals simp

@[simp] theorem State.resetBlocks_frame (s : State) :
      (State.resetBlocks s).link = s.link ∧
      (State.resetBlocks s).pending = s.pending ∧
      (State.resetBlocks s).settings = s.settings ∧
      (State.resetBlocks s).head.table.length = s.head.table.length ∧
      (State.resetBlocks s).gov.step = s.gov.step ∧
      (State.resetBlocks s).transport.pos = s.transport.pos := by
  simp [State.resetBlocks]

/-! ### Operations of Machine/Operations.lean -/

@[simp] theorem State.accept_frame (s : State) (tag : Byte) (o : Op) (p : OpPhase) :
      (State.accept s tag o p).att = s.att ∧
      (State.accept s tag o p).medium = s.medium ∧
      (State.accept s tag o p).transport = s.transport ∧
      (State.accept s tag o p).tape = s.tape ∧
      (State.accept s tag o p).queue = s.queue ∧
      (State.accept s tag o p).engine = s.engine ∧
      (State.accept s tag o p).port = s.port ∧
      (State.accept s tag o p).writer = s.writer ∧
      (State.accept s tag o p).reader = s.reader ∧
      (State.accept s tag o p).catalog = s.catalog ∧
      (State.accept s tag o p).gov = s.gov ∧
      (State.accept s tag o p).head = s.head ∧
      (State.accept s tag o p).pending = s.pending ∧
      (State.accept s tag o p).settings = s.settings := by
  simp [State.accept]

@[simp] theorem State.flushPhase_frame (s : State) :
      (State.flushPhase s).tape = s.tape ∧
      (State.flushPhase s).reader = s.reader ∧
      (State.flushPhase s).head = s.head ∧
      (State.flushPhase s).pending = s.pending ∧
      (State.flushPhase s).settings = s.settings ∧
      (State.flushPhase s).queue.slots.length = s.queue.slots.length ∧
      (State.flushPhase s).gov.step = s.gov.step ∧
      (State.flushPhase s).transport.pos = s.transport.pos := by
  unfold State.flushPhase; split <;> simp

@[simp] theorem State.takeOperation_frame (s : State) (tag : Byte) (o : Op) (discards : Bool) :
      (State.takeOperation s tag o discards).tape = s.tape ∧
      (State.takeOperation s tag o discards).head = s.head ∧
      (State.takeOperation s tag o discards).pending = s.pending ∧
      (State.takeOperation s tag o discards).settings = s.settings ∧
      (State.takeOperation s tag o discards).queue.slots.length = s.queue.slots.length ∧
      (State.takeOperation s tag o discards).gov.step = s.gov.step ∧
      (State.takeOperation s tag o discards).transport.pos = s.transport.pos := by
  unfold State.takeOperation; split <;> simp

@[simp] theorem State.beginThreading_frame (s : State) :
      (State.beginThreading s).link = s.link ∧
      (State.beginThreading s).engine = s.engine ∧
      (State.beginThreading s).port = s.port ∧
      (State.beginThreading s).writer = s.writer ∧
      (State.beginThreading s).reader = s.reader ∧
      (State.beginThreading s).catalog = s.catalog ∧
      (State.beginThreading s).gov = s.gov ∧
      (State.beginThreading s).head = s.head ∧
      (State.beginThreading s).pending = s.pending ∧
      (State.beginThreading s).settings = s.settings ∧
      (State.beginThreading s).queue.slots.length = s.queue.slots.length ∧
      (State.beginThreading s).transport.pos = s.transport.pos := by
  simp [State.beginThreading]

@[simp] theorem State.takeLoad_frame (tag : Byte) (s : State) :
      (State.takeLoad tag s).engine = s.engine ∧
      (State.takeLoad tag s).port = s.port ∧
      (State.takeLoad tag s).writer = s.writer ∧
      (State.takeLoad tag s).reader = s.reader ∧
      (State.takeLoad tag s).catalog = s.catalog ∧
      (State.takeLoad tag s).gov = s.gov ∧
      (State.takeLoad tag s).pending = s.pending ∧
      (State.takeLoad tag s).settings = s.settings ∧
      (State.takeLoad tag s).queue.slots.length = s.queue.slots.length ∧
      (State.takeLoad tag s).head.table.length = s.head.table.length ∧
      (State.takeLoad tag s).transport.pos = s.transport.pos := by
  unfold State.takeLoad; dsimp only; repeat' split
  all_goals simp

@[simp] theorem State.takeUnload_frame (tag : Byte) (s : State) :
      (State.takeUnload tag s).pending = s.pending ∧
      (State.takeUnload tag s).settings = s.settings ∧
      (State.takeUnload tag s).queue.slots.length = s.queue.slots.length ∧
      (State.takeUnload tag s).head.table.length = s.head.table.length ∧
      (State.takeUnload tag s).gov.step = s.gov.step ∧
      (State.takeUnload tag s).transport.pos = s.transport.pos := by
  unfold State.takeUnload; split <;> simp

@[simp] theorem State.takeLocate_frame (t : LocateTarget) (tag : Byte) (s : State) :
      (State.takeLocate t tag s).pending = s.pending ∧
      (State.takeLocate t tag s).settings = s.settings ∧
      (State.takeLocate t tag s).queue.slots.length = s.queue.slots.length ∧
      (State.takeLocate t tag s).head.table.length = s.head.table.length ∧
      (State.takeLocate t tag s).gov.step = s.gov.step ∧
      (State.takeLocate t tag s).transport.pos = s.transport.pos := by
  unfold State.takeLocate State.inMounted State.checked
  repeat' split
  all_goals simp

@[simp] theorem State.startWrite_frame (s : State) (tag : Byte) (o : Op) (n : Nat) :
      (State.startWrite s tag o n).att = s.att ∧
      (State.startWrite s tag o n).medium = s.medium ∧
      (State.startWrite s tag o n).tape = s.tape ∧
      (State.startWrite s tag o n).catalog = s.catalog ∧
      (State.startWrite s tag o n).head = s.head ∧
      (State.startWrite s tag o n).pending = s.pending ∧
      (State.startWrite s tag o n).settings = s.settings ∧
      (State.startWrite s tag o n).queue.slots.length = s.queue.slots.length ∧
      (State.startWrite s tag o n).gov.step = s.gov.step ∧
      (State.startWrite s tag o n).transport.pos = s.transport.pos := by
  unfold State.startWrite; dsimp only; repeat' split
  all_goals simp

@[simp] theorem State.takeWriteBlocks_frame (n : Nat) (tag : Byte) (s : State) :
      (State.takeWriteBlocks n tag s).pending = s.pending ∧
      (State.takeWriteBlocks n tag s).settings = s.settings ∧
      (State.takeWriteBlocks n tag s).queue.slots.length = s.queue.slots.length ∧
      (State.takeWriteBlocks n tag s).head.table.length = s.head.table.length ∧
      (State.takeWriteBlocks n tag s).gov.step = s.gov.step ∧
      (State.takeWriteBlocks n tag s).transport.pos = s.transport.pos := by
  unfold State.takeWriteBlocks State.inMounted State.checked
  repeat' split
  all_goals simp

@[simp] theorem State.takeWriteMarkers_frame (n : Nat) (tag : Byte) (s : State) :
      (State.takeWriteMarkers n tag s).pending = s.pending ∧
      (State.takeWriteMarkers n tag s).settings = s.settings ∧
      (State.takeWriteMarkers n tag s).queue.slots.length = s.queue.slots.length ∧
      (State.takeWriteMarkers n tag s).head.table.length = s.head.table.length ∧
      (State.takeWriteMarkers n tag s).gov.step = s.gov.step ∧
      (State.takeWriteMarkers n tag s).transport.pos = s.transport.pos := by
  unfold State.takeWriteMarkers State.inMounted State.checked
  repeat' split
  all_goals simp

@[simp] theorem State.takeReadBlocks_frame (n : Nat) (tag : Byte) (s : State) :
      (State.takeReadBlocks n tag s).pending = s.pending ∧
      (State.takeReadBlocks n tag s).settings = s.settings ∧
      (State.takeReadBlocks n tag s).queue.slots.length = s.queue.slots.length ∧
      (State.takeReadBlocks n tag s).head.table.length = s.head.table.length ∧
      (State.takeReadBlocks n tag s).gov.step = s.gov.step ∧
      (State.takeReadBlocks n tag s).transport.pos = s.transport.pos := by
  unfold State.takeReadBlocks State.inMounted State.checked
  repeat' split
  all_goals simp

@[simp] theorem State.takeSpaceBlocks_frame (forward : Bool) (n : Nat) (tag : Byte) (s : State) :
      (State.takeSpaceBlocks forward n tag s).pending = s.pending ∧
      (State.takeSpaceBlocks forward n tag s).settings = s.settings ∧
      (State.takeSpaceBlocks forward n tag s).queue.slots.length = s.queue.slots.length ∧
      (State.takeSpaceBlocks forward n tag s).head.table.length = s.head.table.length ∧
      (State.takeSpaceBlocks forward n tag s).gov.step = s.gov.step ∧
      (State.takeSpaceBlocks forward n tag s).transport.pos = s.transport.pos := by
  unfold State.takeSpaceBlocks State.inMounted State.checked
  repeat' split
  all_goals simp

@[simp] theorem State.takeSpaceMarkers_frame (forward : Bool) (n : Nat) (tag : Byte) (s : State) :
      (State.takeSpaceMarkers forward n tag s).pending = s.pending ∧
      (State.takeSpaceMarkers forward n tag s).settings = s.settings ∧
      (State.takeSpaceMarkers forward n tag s).queue.slots.length = s.queue.slots.length ∧
      (State.takeSpaceMarkers forward n tag s).head.table.length = s.head.table.length ∧
      (State.takeSpaceMarkers forward n tag s).gov.step = s.gov.step ∧
      (State.takeSpaceMarkers forward n tag s).transport.pos = s.transport.pos := by
  unfold State.takeSpaceMarkers State.inMounted State.checked
  repeat' split
  all_goals simp

@[simp] theorem State.takeFlush_frame (tag : Byte) (s : State) :
      (State.takeFlush tag s).pending = s.pending ∧
      (State.takeFlush tag s).settings = s.settings ∧
      (State.takeFlush tag s).queue.slots.length = s.queue.slots.length ∧
      (State.takeFlush tag s).head.table.length = s.head.table.length ∧
      (State.takeFlush tag s).gov.step = s.gov.step ∧
      (State.takeFlush tag s).transport.pos = s.transport.pos := by
  unfold State.takeFlush State.inMounted State.checked
  repeat' split
  all_goals first
    | simp; done
    | (dsimp only; split <;> simp)

@[simp] theorem State.takeRetireFrom_frame (b : Nat) (tag : Byte) (s : State) :
      (State.takeRetireFrom b tag s).pending = s.pending ∧
      (State.takeRetireFrom b tag s).settings = s.settings ∧
      (State.takeRetireFrom b tag s).queue.slots.length = s.queue.slots.length ∧
      (State.takeRetireFrom b tag s).head.table.length = s.head.table.length ∧
      (State.takeRetireFrom b tag s).gov.step = s.gov.step ∧
      (State.takeRetireFrom b tag s).transport.pos = s.transport.pos := by
  unfold State.takeRetireFrom State.inMounted State.checked
  repeat' split
  all_goals simp

@[simp] theorem State.takeScanHead_frame (tag : Byte) (s : State) :
      (State.takeScanHead tag s).pending = s.pending ∧
      (State.takeScanHead tag s).settings = s.settings ∧
      (State.takeScanHead tag s).queue.slots.length = s.queue.slots.length ∧
      (State.takeScanHead tag s).head.table.length = s.head.table.length ∧
      (State.takeScanHead tag s).gov.step = s.gov.step ∧
      (State.takeScanHead tag s).transport.pos = s.transport.pos := by
  unfold State.takeScanHead State.inMounted State.checked
  repeat' split
  all_goals simp

@[simp] theorem State.takeOp_frame (o : Op) (tag : Byte) (s : State) :
      (State.takeOp o tag s).pending = s.pending ∧
      (State.takeOp o tag s).settings = s.settings ∧
      (State.takeOp o tag s).queue.slots.length = s.queue.slots.length ∧
      (State.takeOp o tag s).head.table.length = s.head.table.length ∧
      (State.takeOp o tag s).gov.step = s.gov.step ∧
      (State.takeOp o tag s).transport.pos = s.transport.pos := by
  unfold State.takeOp; split <;> simp

@[simp] theorem State.releaseHeld_frame (s : State) :
      (State.releaseHeld s).pending = s.pending ∧
      (State.releaseHeld s).settings = s.settings ∧
      (State.releaseHeld s).queue.slots.length = s.queue.slots.length ∧
      (State.releaseHeld s).head.table.length = s.head.table.length ∧
      (State.releaseHeld s).gov.step = s.gov.step ∧
      (State.releaseHeld s).transport.pos = s.transport.pos := by
  unfold State.releaseHeld; dsimp only; repeat' split
  all_goals simp

/-! ### Operations of Machine/MediumEvents.lean -/

@[simp] theorem State.emptySlot_frame (s : State) :
      (State.emptySlot s).pending = s.pending ∧
      (State.emptySlot s).settings = s.settings ∧
      (State.emptySlot s).queue.slots.length = s.queue.slots.length ∧
      (State.emptySlot s).head.table.length = s.head.table.length ∧
      (State.emptySlot s).gov.step = s.gov.step ∧
      (State.emptySlot s).transport.pos = s.transport.pos := by
  unfold State.emptySlot; dsimp only; repeat' split
  all_goals simp

@[simp] theorem State.dropWork_frame (s : State) :
      (State.dropWork s).att = s.att ∧
      (State.dropWork s).pending = s.pending ∧
      (State.dropWork s).settings = s.settings ∧
      (State.dropWork s).queue.slots.length = s.queue.slots.length ∧
      (State.dropWork s).head.table.length = s.head.table.length ∧
      (State.dropWork s).gov.step = s.gov.step ∧
      (State.dropWork s).transport.pos = s.transport.pos := by
  simp [State.dropWork]

@[simp] theorem State.endLost_frame (s : State) :
      (State.endLost s).att = s.att ∧
      (State.endLost s).medium = s.medium ∧
      (State.endLost s).transport = s.transport ∧
      (State.endLost s).tape = s.tape ∧
      (State.endLost s).queue = s.queue ∧
      (State.endLost s).engine = s.engine ∧
      (State.endLost s).port = s.port ∧
      (State.endLost s).writer = s.writer ∧
      (State.endLost s).reader = s.reader ∧
      (State.endLost s).catalog = s.catalog ∧
      (State.endLost s).gov = s.gov ∧
      (State.endLost s).pending = s.pending ∧
      (State.endLost s).settings = s.settings ∧
      (State.endLost s).head.table.length = s.head.table.length := by
  unfold State.endLost; split <;> simp

@[simp] theorem State.endMount_frame (s : State) :
      (State.endMount s).link = s.link ∧
      (State.endMount s).medium = s.medium ∧
      (State.endMount s).transport = s.transport ∧
      (State.endMount s).tape = s.tape ∧
      (State.endMount s).engine = s.engine ∧
      (State.endMount s).port = s.port ∧
      (State.endMount s).reader = s.reader ∧
      (State.endMount s).gov = s.gov ∧
      (State.endMount s).pending = s.pending ∧
      (State.endMount s).settings = s.settings ∧
      (State.endMount s).queue.slots.length = s.queue.slots.length ∧
      (State.endMount s).head.table.length = s.head.table.length := by
  unfold State.endMount; split <;> simp

@[simp] theorem State.loseCartridge_frame (s : State) :
      (State.loseCartridge s).pending = s.pending ∧
      (State.loseCartridge s).settings = s.settings ∧
      (State.loseCartridge s).queue.slots.length = s.queue.slots.length ∧
      (State.loseCartridge s).head.table.length = s.head.table.length ∧
      (State.loseCartridge s).gov.step = s.gov.step ∧
      (State.loseCartridge s).transport.pos = s.transport.pos := by
  simp [State.loseCartridge]

/-! ### Operations of Machine/TransportEvents.lean -/

@[simp] theorem State.countTach_frame (s : State) (down : Bool) (reads : BoundaryReads) :
      (State.countTach s down reads).pending = s.pending ∧
      (State.countTach s down reads).settings = s.settings ∧
      (State.countTach s down reads).queue.slots.length = s.queue.slots.length ∧
      (State.countTach s down reads).head.table.length = s.head.table.length ∧
      (State.countTach s down reads).gov.step = s.gov.step := by
  unfold State.countTach; dsimp only; repeat' split
  all_goals simp

@[simp] theorem State.rewound_frame (s : State) :
      (State.rewound s).link = s.link ∧
      (State.rewound s).engine = s.engine ∧
      (State.rewound s).port = s.port ∧
      (State.rewound s).writer = s.writer ∧
      (State.rewound s).reader = s.reader ∧
      (State.rewound s).catalog = s.catalog ∧
      (State.rewound s).head = s.head ∧
      (State.rewound s).pending = s.pending ∧
      (State.rewound s).settings = s.settings ∧
      (State.rewound s).queue.slots.length = s.queue.slots.length ∧
      (State.rewound s).gov.step = s.gov.step ∧
      (State.rewound s).transport.pos = s.transport.pos := by
  simp [State.rewound]

@[simp] theorem State.locateDone_frame (s : State) :
      (State.locateDone s).att = s.att ∧
      (State.locateDone s).medium = s.medium ∧
      (State.locateDone s).transport = s.transport ∧
      (State.locateDone s).tape = s.tape ∧
      (State.locateDone s).queue = s.queue ∧
      (State.locateDone s).engine = s.engine ∧
      (State.locateDone s).port = s.port ∧
      (State.locateDone s).writer = s.writer ∧
      (State.locateDone s).reader = s.reader ∧
      (State.locateDone s).gov = s.gov ∧
      (State.locateDone s).head = s.head ∧
      (State.locateDone s).pending = s.pending ∧
      (State.locateDone s).settings = s.settings := by
  simp only [State.locateDone]; repeat' split
  all_goals simp

@[simp] theorem State.stopRest_frame (s : State) :
      (State.stopRest s).reader = s.reader ∧
      (State.stopRest s).pending = s.pending ∧
      (State.stopRest s).settings = s.settings ∧
      (State.stopRest s).queue.slots.length = s.queue.slots.length ∧
      (State.stopRest s).head.table.length = s.head.table.length ∧
      (State.stopRest s).gov.step = s.gov.step ∧
      (State.stopRest s).transport.pos = s.transport.pos := by
  simp [State.stopRest]

@[simp] theorem State.finalChecks_frame (fs : List Flight) (reads : List (List TrackRead)) (s : State) :
      (State.finalChecks fs reads s).medium = s.medium ∧
      (State.finalChecks fs reads s).reader = s.reader ∧
      (State.finalChecks fs reads s).gov = s.gov ∧
      (State.finalChecks fs reads s).pending = s.pending ∧
      (State.finalChecks fs reads s).settings = s.settings ∧
      (State.finalChecks fs reads s).queue.slots.length = s.queue.slots.length ∧
      (State.finalChecks fs reads s).head.table.length = s.head.table.length ∧
      (State.finalChecks fs reads s).transport.pos = s.transport.pos := by
  induction fs generalizing reads s with
  | nil => simp [State.finalChecks]
  | cons f fs ih =>
    unfold State.finalChecks
    dsimp only
    split <;> simp [ih]

/-! ### Operations of Machine/HeadEvents.lean -/

@[simp] theorem State.scanDone_frame (s : State) (c : Scan) :
      (State.scanDone s c).reader = s.reader ∧
      (State.scanDone s c).pending = s.pending ∧
      (State.scanDone s c).settings = s.settings ∧
      (State.scanDone s c).queue.slots.length = s.queue.slots.length ∧
      (State.scanDone s c).head.table.length = s.head.table.length ∧
      (State.scanDone s c).gov.step = s.gov.step ∧
      (State.scanDone s c).transport.pos = s.transport.pos := by
  unfold State.scanDone; split <;> simp

@[simp] theorem State.noiseEnd_frame (s : State) (c : Scan) (amplitude noise : Nat) :
      (State.noiseEnd s c amplitude noise).reader = s.reader ∧
      (State.noiseEnd s c amplitude noise).pending = s.pending ∧
      (State.noiseEnd s c amplitude noise).settings = s.settings ∧
      (State.noiseEnd s c amplitude noise).queue.slots.length = s.queue.slots.length ∧
      (State.noiseEnd s c amplitude noise).head.table.length = s.head.table.length ∧
      (State.noiseEnd s c amplitude noise).gov.step = s.gov.step ∧
      (State.noiseEnd s c amplitude noise).transport.pos = s.transport.pos := by
  unfold State.noiseEnd; dsimp only; repeat' split
  all_goals simp

/-! ### Operations of Machine/WriteEvents.lean -/

@[simp] theorem State.badLength_frame (s : State) :
      (State.badLength s).att = s.att ∧
      (State.badLength s).medium = s.medium ∧
      (State.badLength s).transport = s.transport ∧
      (State.badLength s).tape = s.tape ∧
      (State.badLength s).queue = s.queue ∧
      (State.badLength s).reader = s.reader ∧
      (State.badLength s).catalog = s.catalog ∧
      (State.badLength s).gov = s.gov ∧
      (State.badLength s).head = s.head ∧
      (State.badLength s).pending = s.pending ∧
      (State.badLength s).settings = s.settings := by
  unfold State.badLength; split <;> simp

@[simp] theorem State.takeLength_frame (s : State) (l : Nat) :
      (State.takeLength s l).link = s.link ∧
      (State.takeLength s l).att = s.att ∧
      (State.takeLength s l).medium = s.medium ∧
      (State.takeLength s l).transport = s.transport ∧
      (State.takeLength s l).tape = s.tape ∧
      (State.takeLength s l).queue = s.queue ∧
      (State.takeLength s l).engine = s.engine ∧
      (State.takeLength s l).writer = s.writer ∧
      (State.takeLength s l).reader = s.reader ∧
      (State.takeLength s l).catalog = s.catalog ∧
      (State.takeLength s l).gov = s.gov ∧
      (State.takeLength s l).head = s.head ∧
      (State.takeLength s l).pending = s.pending ∧
      (State.takeLength s l).settings = s.settings := by
  simp [State.takeLength]

@[simp] theorem State.refuseBlock_frame (s : State) (code : Code) :
      (State.refuseBlock s code).att = s.att ∧
      (State.refuseBlock s code).medium = s.medium ∧
      (State.refuseBlock s code).transport = s.transport ∧
      (State.refuseBlock s code).tape = s.tape ∧
      (State.refuseBlock s code).queue = s.queue ∧
      (State.refuseBlock s code).reader = s.reader ∧
      (State.refuseBlock s code).catalog = s.catalog ∧
      (State.refuseBlock s code).gov = s.gov ∧
      (State.refuseBlock s code).head = s.head ∧
      (State.refuseBlock s code).pending = s.pending ∧
      (State.refuseBlock s code).settings = s.settings := by
  simp [State.refuseBlock]

@[simp] theorem State.admit_frame (s : State) (length : Nat) :
      (State.admitBlock s length).link = s.link ∧
      (State.admitBlock s length).att = s.att ∧
      (State.admitBlock s length).medium = s.medium ∧
      (State.admitBlock s length).transport = s.transport ∧
      (State.admitBlock s length).tape = s.tape ∧
      (State.admitBlock s length).queue = s.queue ∧
      (State.admitBlock s length).writer = s.writer ∧
      (State.admitBlock s length).reader = s.reader ∧
      (State.admitBlock s length).catalog = s.catalog ∧
      (State.admitBlock s length).gov = s.gov ∧
      (State.admitBlock s length).head = s.head ∧
      (State.admitBlock s length).pending = s.pending ∧
      (State.admitBlock s length).settings = s.settings := by
  simp [State.admitBlock]

@[simp] theorem State.touch_frame (s : State) (b : Nat) :
      (State.touch s b).link = s.link ∧
      (State.touch s b).medium = s.medium ∧
      (State.touch s b).transport = s.transport ∧
      (State.touch s b).tape = s.tape ∧
      (State.touch s b).queue = s.queue ∧
      (State.touch s b).engine = s.engine ∧
      (State.touch s b).port = s.port ∧
      (State.touch s b).writer = s.writer ∧
      (State.touch s b).catalog = s.catalog ∧
      (State.touch s b).gov = s.gov ∧
      (State.touch s b).head = s.head ∧
      (State.touch s b).pending = s.pending ∧
      (State.touch s b).settings = s.settings := by
  unfold State.touch; dsimp only; repeat' split
  all_goals simp

@[simp] theorem State.beginOpening_frame (s : State) (b : Nat) :
      (State.beginOpening s b).reader = s.reader ∧
      (State.beginOpening s b).pending = s.pending ∧
      (State.beginOpening s b).settings = s.settings ∧
      (State.beginOpening s b).queue.slots.length = s.queue.slots.length ∧
      (State.beginOpening s b).head.table.length = s.head.table.length ∧
      (State.beginOpening s b).gov.step = s.gov.step ∧
      (State.beginOpening s b).transport.pos = s.transport.pos := by
  unfold State.beginOpening; dsimp only; repeat' split
  all_goals simp

/-! ### Operations of Machine/ReadEvents.lean -/

@[simp] theorem State.afterBlock_frame (s : State) :
      (State.afterBlock s).pending = s.pending ∧
      (State.afterBlock s).settings = s.settings ∧
      (State.afterBlock s).queue.slots.length = s.queue.slots.length ∧
      (State.afterBlock s).head.table.length = s.head.table.length ∧
      (State.afterBlock s).gov.step = s.gov.step ∧
      (State.afterBlock s).transport.pos = s.transport.pos := by
  simp [State.afterBlock]

@[simp] theorem State.answerExpired_frame (s : State) :
      (State.answerExpired s).pending = s.pending ∧
      (State.answerExpired s).settings = s.settings ∧
      (State.answerExpired s).queue.slots.length = s.queue.slots.length ∧
      (State.answerExpired s).head.table.length = s.head.table.length ∧
      (State.answerExpired s).gov.step = s.gov.step ∧
      (State.answerExpired s).transport.pos = s.transport.pos := by
  unfold State.answerExpired; dsimp only; repeat' split
  all_goals simp

@[simp] theorem State.restartRead_frame (s : State) :
      (State.restartRead s).pending = s.pending ∧
      (State.restartRead s).settings = s.settings ∧
      (State.restartRead s).queue.slots.length = s.queue.slots.length ∧
      (State.restartRead s).transport.pos = s.transport.pos ∧
      (State.restartRead s).head.table.length = s.head.table.length ∧
      (State.restartRead s).gov.step = s.gov.step := by
  unfold State.restartRead; dsimp only; repeat' split
  all_goals simp

/-! ### Operations of Machine/LinkEvents.lean -/

@[simp] theorem State.shiftOut_frame (s : State) (n : Nat) :
      (State.shiftOut s n).pending = s.pending ∧
      (State.shiftOut s n).settings = s.settings ∧
      (State.shiftOut s n).queue.slots.length = s.queue.slots.length ∧
      (State.shiftOut s n).head.table.length = s.head.table.length ∧
      (State.shiftOut s n).gov.step = s.gov.step ∧
      (State.shiftOut s n).transport.pos = s.transport.pos := by
  simp [State.shiftOut]

end Sys2Proof.Machine
end

