-- ==== Sys2Proof/Laws/Settle.lean ====
section
/-! SUPPORT. What the settling at the end of a step does to a state that has nothing left over. -/

namespace Sys2Proof.Machine

theorem State.settleScan_eq (s : State) (h : s.head.scan.bind Scan.ending = none) : s.settleScan = s := by
  unfold State.settleScan
  cases hs : s.head.scan with
  | none => rfl
  | some c => simp [hs] at h; simp [h]

theorem State.settleUnthread_eq (s : State) (h : ¬(s.medium.state = .unthreading ∧ s.medium.phase = .idle)) :
    s.settleUnthread = s := by
  unfold State.settleUnthread
  split
  · next q => exact absurd ⟨q.1, q.2.1⟩ h
  · rfl

theorem State.settleReader_eq (s : State) (h : ¬(s.reader.state = .ahead ∧ s.reader.nextDrain = none)) :
    s.settleReader = s := by
  unfold State.settleReader
  split
  · next q => exact absurd ⟨q.1, q.2.1⟩ h
  · rfl

theorem State.beginOwnWork_eq (s : State) (h : s.opPhase ≠ some .flushed) : s.beginOwnWork = s := by
  simp [State.beginOwnWork, h]

theorem State.takeStage_eq (s : State) (st : SlotState) (h : s.stageSettled st) : s.takeStage st = s := by
  unfold State.takeStage
  split
  · rfl
  · next q => simp [State.takeFree, h.resolve_left q]

theorem State.settleStages_eq (s : State) (hw : s.sessionOpen = true → s.stageSettled .intake ∧ s.stageSettled .build)
    (hr : s.reading = true ∧ s.reader.ending = none → s.stageSettled .outflow) : s.settleStages = s := by
  have h1 : (if s.sessionOpen then s.takeStages else s) = s := by
    split
    · next q => simp [State.takeStages, State.takeStage_eq s .intake (hw q).1, State.takeStage_eq s .build (hw q).2]
    · rfl
  simp only [State.settleStages, h1]
  split
  · next q => simp at q; exact State.takeStage_eq s .outflow (hr ⟨q.1, q.2⟩)
  · rfl

/-- With no scan ended, no unthread waiting, no read-ahead ended and no operation between its phases, only the stage slots due
are taken. -/
theorem State.settle_eq_stages (s : State) (h1 : s.head.scan.bind Scan.ending = none)
    (h2 : ¬(s.medium.state = .unthreading ∧ s.medium.phase = .idle))
    (h3 : ¬(s.reader.state = .ahead ∧ s.reader.nextDrain = none)) (h4 : s.opPhase ≠ some .flushed) :
    s.settle = s.settleStages := by
  simp [State.settle, State.settleScan_eq s h1, State.settleUnthread_eq s h2, State.settleReader_eq s h3,
    State.beginOwnWork_eq s h4]

/-- With no scan ended, no unthread waiting and no read-ahead ended, an operation's own work begins. -/
theorem State.settle_eq_work (s : State) (h1 : s.head.scan.bind Scan.ending = none)
    (h2 : ¬(s.medium.state = .unthreading ∧ s.medium.phase = .idle))
    (h3 : ¬(s.reader.state = .ahead ∧ s.reader.nextDrain = none)) :
    s.settle = s.beginOwnWork.settleStages := by
  simp [State.settle, State.settleScan_eq s h1, State.settleUnthread_eq s h2, State.settleReader_eq s h3]

/-- A settled state stays as it is. -/
theorem State.settle_of_settled (s : State) (h : s.Settled) : s.settle = s := by
  obtain ⟨h1, h2, h3, h4, h5, h6⟩ := h
  simp [State.settle, State.settleScan_eq s h1, State.settleUnthread_eq s h2, State.settleReader_eq s h3,
    State.beginOwnWork_eq s h4, State.settleStages_eq s h5 h6]

/-- A request with room is taken (R190). -/
theorem State.take_of_room (s : State) (f : State → State) (h : s.hasRoom = true) : s.take f = f s := by
  simp [State.take, h]

end Sys2Proof.Machine
end

