-- ==== Sys2Proof/Tests/Slice0.lean ====
section
/-! SUPPORT. The tests of this model: ill-formed commands that WellFormed refuses, request frames written out byte by byte from
section 11.9, single steps worked out by hand from the rules, and for every statement with hypotheses a concrete state
that meets them, clause by clause. -/

namespace Sys2Proof.Tests

open Sys2Proof Sys2Proof.Machine

/-! ### States -/

/-- The record of a data cartridge written before, its catalog not valid. -/
def dataRecord : CmRecord :=
  { serial := List.replicate 12 0x41, kind := .data, everWritten := true, valid := false, passes := 0, loadCount := 3,
    sessionCounter := 2, eod := { session := 2, stripe := 2, block := 3 } }

def freshRecord : CmRecord := { dataRecord with everWritten := false, loadCount := 0, sessionCounter := 0 }

def cleanerRecord : CmRecord := { dataRecord with kind := .cleaning, passes := 2 }

/-- An identity copy with this record, the tab off, no memory fault. -/
def identityOf (r : CmRecord) : Identity := { record := some r, tab := false, memoryFault := false }

/-- One extent of two stripes and three blocks on wrap 0, segments 16 to 39. -/
def extent0 : Extent :=
  { session := 2, wrap := 0, first := 16, last := 39, firstStripe := 0, stripes := 2, firstBlock := 0, blocks := 3,
    markers := 1, raw := 300, stored := 300, rewrites := 0, gaps := 0, merged := false }

/-- The state in a Medium State and phase with this record. -/
def holding (m : MediumState) (p : MediumPhase) (r : CmRecord) : State :=
  { State.reset with medium := { State.reset.medium with
      state := m, phase := p, present := true, identity := some (identityOf r) } }

/-- SEATED with this record. -/
def seated (r : CmRecord) : State := holding .seated .idle r

/-- The transport in a state with a motion, the position known at wrap 0, segment 100. -/
def moving (s : State) (t : TransportState) (m : Motion) : State :=
  { s with transport := { s.transport with
      state := t, motion := m, tension := .working, known := true, pos := { wrap := 0, seg := 100, tach := 0 }
      relaxTimer := t == .stopped } }

/-- MOUNTED at rest, the position known, Current Block 1 of 3 blocks. -/
def mounted : State :=
  { moving (holding .mounted .idle dataRecord) .stopped .idle with
    catalog := { State.reset.catalog with
      blockCount := 3, markerCount := 1, current := 1, positionValid := true, extents := [extent0], session := 2
      location := some { stripe := 0, wrap := 0, seg := 20, atZero := false, headerOnly := false }
      append := { wrap := 0, seg := 40, stripe := 2 } } }

/-- An operation at its own work, tag 7. -/
def doing (s : State) (o : Op) : State :=
  { s with link := { s.link with outstanding := some { op := o, tag := 7, phase := .working } } }

/-- A transport record changed. -/
def onTransport (s : State) (f : Transport → Transport) : State := { s with transport := f s.transport }

/-- A medium record changed. -/
def onMedium (s : State) (f : Medium → Medium) : State := { s with medium := f s.medium }

/-- A catalog changed. -/
def onCatalog (s : State) (f : Catalog → Catalog) : State := { s with catalog := f s.catalog }

/-- The slots given, the rest of the 128 FREE. -/
def withSlots (s : State) (slots : List Slot) : State :=
  { s with queue := { s.queue with slots := slots ++ List.replicate (128 - slots.length) Slot.empty } }

def slotIn (st : SlotState) : Slot := { Slot.empty with state := st }

/-- A READY slot of stripe n. -/
def readySlot (n : Nat) (planned : Bool) : Slot :=
  { slotIn .ready with stripe := some n, planned := planned, payload := [1, 2, 3], account := some (Account.opened 0) }

/-- Session 3 open in a writer state, its stages held, then the slots given. -/
def inSession (w : WriteState) (slots : List Slot) : State :=
  withSlots
    { mounted with writer := { Writer.idle with state := w, session := some 3, openWrap := some 0, firstStripe := some 2 } }
    (slots ++ [slotIn .intake, slotIn .build])

/-- A WRITE BLOCKS of n blocks under way in session 3, one length word of `l` bytes taken. -/
def writing (n l : Nat) (slots : List Slot) : State :=
  let s := doing (inSession .accepting slots) (.writeBlocks n)
  { s with
    writer := { s.writer with requested := n }
    port := { Port.idle with phase := .data, lengthWord := some l, remaining := (l + 3) / 4, bytesLeft := l, taken := 1 } }

/-- The same waiting for a length word. -/
def awaiting (o : Op) (n : Nat) : State :=
  let s := doing (inSession .accepting []) o
  { s with writer := { s.writer with requested := n }, port := { Port.idle with phase := .length } }

/-- A READ BLOCKS of n blocks under way, OUTFLOW held, then the slots given. -/
def readingBlocks (n : Nat) (slots : List Slot) : State :=
  let s := withSlots (doing mounted (.readBlocks n)) (slots ++ [slotIn .outflow])
  { s with reader := { Reader.idle with
      state := .reading, request := some (.readBlocks n), nextDrain := some 0, extent := some 0
      nextPlan := some { wrap := 0, seg := 21 }, nextDeliver := 1 } }

/-- A slot beyond the table reads as FREE, so a property of every slot of the table holds of every index. -/
theorem forall_slot (s : State) (p : Slot → Prop) (h0 : p Slot.empty) (h : ∀ t ∈ s.queue.slots, p t) (j : Nat) :
    p (s.slot j) := by
  unfold State.slot slotAt
  rw [List.getD_eq_getElem?_getD]
  cases hj : s.queue.slots[j]? with
  | none => exact h0
  | some t => exact h t (List.mem_of_getElem? hj)

/-! ### Ill-formed commands -/

def longTrack : TrackRead := { lost := false, bytes := List.replicate 16417 0, amplitude := 0 }

theorem test_illformed_configure : Instr.wellFormed (.configure 1 []) = false ∧
    Instr.wellFormed (.configure 1 (List.replicate 20 (1, 8))) = false ∧
    Instr.wellFormed (.configure 1 [(1, 8)]) = true := by decide

theorem test_illformed_load_medium_records :
    Instr.wellFormed (.loadMediumRecords 1 (List.replicate 43 ⟨List.replicate 12 0, 0, 0, 0, 0, 0, 1⟩)) = false ∧
    Instr.wellFormed (.loadMediumRecords 1 [⟨[0], 0, 0, 0, 0, 0, 1⟩]) = false ∧
    Instr.wellFormed (.loadMediumRecords 1 []) = true := by decide

theorem test_illformed_cartridge_memory : Instr.wellFormed (.cartridgeMemoryReadDone (some [])) = false ∧
    Instr.wellFormed (.cartridgeMemoryWriteDone (some (List.replicate 38 0))) = false ∧
    Instr.wellFormed (.cartridgeMemoryReadDone (some (List.replicate 37 0))) = true := by decide

theorem test_illformed_reads : Instr.wellFormed (.segmentBoundary false ⟨List.replicate 19 lostTrack, []⟩) = false ∧
    Instr.wellFormed (.tachCount .forward ⟨[], List.replicate 19 lostTrack⟩) = false ∧
    Instr.wellFormed (.segmentBoundary false ⟨[], []⟩) = true := by decide

theorem test_illformed_track : longTrack.wellFormed = false := by decide +kernel

theorem test_illformed_servo_mark : Instr.wellFormed (.servoMarkCapture 64000 []) = false ∧
    Instr.wellFormed (.servoMarkCapture 5 [⟨List.replicate 19 lostTrack, []⟩]) = false ∧
    Instr.wellFormed (.servoMarkCapture 63999 []) = true := by decide

theorem test_illformed_rest : Instr.wellFormed (.endOfDataAreaRest [[], [], [], []]) = false ∧
    Instr.wellFormed (.endOfDataAreaRest [List.replicate 19 lostTrack]) = false ∧
    Instr.wellFormed (.endOfDataAreaRest [[], [], []]) = true := by decide

theorem test_illformed_burst : Instr.wellFormed (.bufferBurstEnd [.dataPort, .dataPort] false) = false ∧
    Instr.wellFormed (.bufferBurstEnd [.dataPort, .tapeChannel] false) = true := by decide

/-! ### Request frames, byte by byte from section 11.9 -/

theorem test_frame_status : parseFrame [0x01, 0x2A, 0, 0] = .request (.status 0x2A) := by decide
theorem test_frame_ack : parseFrame [0x02, 1, 0, 1, 0x81] = .request (.ackAttention 1 0x81) := by decide
theorem test_frame_configure :
    parseFrame [0x03, 1, 0, 5, 0x05, 0, 0, 0, 3] = .request (.configure 1 [(0x05, 3)]) := by decide +kernel
theorem test_frame_query :
    parseFrame [0x05, 1, 0, 5, 0x02, 0, 0, 1, 0] = .request (.queryCatalog 1 2 256) := by decide
theorem test_frame_set_zone : parseFrame [0x06, 1, 0, 9, 7, 1, 0, 1, 0, 0, 16, 3, 2] =
    .request (.setZone 1 7 1 0x10000 16 3 2) := by decide
theorem test_frame_load_condition : parseFrame [0x0A, 1, 0, 9, 0, 0, 1, 0, 0, 0, 0, 9, 2] =
    .request (.loadCondition 1 256 9 2) := by decide
theorem test_frame_load_medium_records :
    parseFrame ([0x0C, 1, 0, 25, 1] ++ List.replicate 12 0x42 ++ [0, 5, 0, 0, 0, 6, 0, 7, 0, 8, 9, 2]) =
      .request (.loadMediumRecords 1 [⟨List.replicate 12 0x42, 5, 6, 7, 8, 9, 2⟩]) := by decide +kernel
theorem test_frame_load : parseFrame [0x20, 9, 0, 0] = .request (.load 9) := by decide
theorem test_frame_locate : parseFrame [0x22, 9, 0, 5, 1, 0, 0, 0, 77] = .request (.locate 9 1 77) := by decide
theorem test_frame_write : parseFrame [0x23, 9, 0, 2, 1, 2] = .request (.writeBlocks 9 0x102) := by decide
theorem test_frame_space : parseFrame [0x27, 9, 0, 5, 2, 0, 0, 0, 4] = .request (.spaceMarkers 9 2 4) := by decide
theorem test_frame_retire : parseFrame [0x29, 9, 0, 4, 0, 0, 0, 4] = .request (.retireFrom 9 4) := by decide
/-- A wrong length, an unknown code and a frame cut short are BAD_REQUEST with the tag; a frame begun by 0x00 asks nothing. -/
theorem test_frame_bad : parseFrame [0x20, 9, 0, 1, 0] = .bad 9 ∧ parseFrame [0x7F, 8, 0, 0] = .bad 8 ∧
    parseFrame [0x23, 7, 0, 2, 1] = .bad 7 ∧ parseFrame [0x00, 7, 0, 0] = .noRequest := by decide

/-! ### Single steps, by hand from the rules -/

/-- The state of a next answer. -/
def after (o : Host.Outcome State Fault Refusal) : State :=
  match o with
  | .next t => t
  | _ => State.reset

/-- R6: the CRC-32 of "123456789" is 0xCBF43926 in the reflected form (assumption 5). -/
theorem test_crc : crc32 [0x31, 0x32, 0x33, 0x34, 0x35, 0x36, 0x37, 0x38, 0x39] = 0xCBF43926 := by decide +kernel

/-- R107 to R109: ten equal bytes are one literal and one match of 9 at offset 1, token 0x80 + 6 × 8 and 0. -/
theorem test_compress :
    ((BlockRecord.opened 5 10 false true).run (List.replicate 10 0x41)).rest.drop 16 = [0x00, 0x41, 0xB0, 0x00] := by decide

/-- R114: the same stream expands to the ten bytes. -/
theorem test_expand : expandTokens 10 0 5 [0x00, 0x41, 0xB0, 0x00] [] = .output (List.replicate 10 0x41) [] := by decide +kernel

/-- R157: 106 × 65,536 stored bytes demand 120 segments per second, step 0; one byte more, step 1. -/
theorem test_governor : (Window.made 0 5 (106 * 65536)).target = 0 ∧ (Window.made 0 5 (106 * 65536 + 1)).target = 1 ∧
    (Window.made 2 4 0).target = 2 ∧ (Window.made 2 4 4294967295).target = 4 := by decide

/-- R1: the ordinal counts from wrap 0, segment 16; the last segment is wrap 63, segment 0. -/
theorem test_ordinal : ordinal { wrap := 0, seg := 16 } = 0 ∧ ordinal { wrap := 1, seg := 63999 } = 63984 ∧
    ordinal { wrap := 63, seg := 0 } = 4095983 := by decide

/-- R70: one count with the recording direction on wrap 0 at tach 63 passes the boundary. -/
theorem test_tach : (after (exec (.tachCount .forward ⟨[], []⟩)
    (onTransport (moving mounted .locating (.travel (.locateEnd { wrap := 0, seg := 200 })))
      fun t => { t with pos := { wrap := 0, seg := 100, tach := 63 }, markSeen := true }))).transport.pos =
    { wrap := 0, seg := 101, tach := 0 } := by decide

/-- R104: bytes of a data word enter most significant first; the last word of 5 bytes brings one byte. -/
theorem test_data_word : dataBytes 0x01020304 9 = [1, 2, 3, 4] ∧ dataBytes 0x05000000 1 = [5] := by decide

/-- R14: the sixteen bytes of a header, the check by hand: 7 + 1 + 44 + 2 + 1 + 44 = 0x63, inverted 0x9C. -/
theorem test_block_header : (BlockHeader.make 7 300 300 flagRaw 0x11223344).bytes =
    [0, 0, 0, 7, 0, 1, 0x2C, 2, 0, 1, 0x2C, 0x9C, 0x11, 0x22, 0x33, 0x44] := by decide

/-- R190: a transaction of zeros from power-on shifts out a link byte with no bit set, then zeros. -/
theorem test_idle_transaction : (after (exec (.linkTransaction [0, 0, 0]) State.reset)).link.shiftedOut =
    [0, 0, 0] := by decide

/-- The command at the front of the queue runs; R190: with 16 responses waiting a request is refused. -/
theorem test_step : (after (step { State.reset with pending := [.status 1, .abort 2] })).pending = [.abort 2] ∧
    (after (exec (.status 1) { State.reset with link := { State.reset.link with
      queue := List.replicate 16 { tag := 0, code := .ok, payload := .none } } })).link.refused = true := by decide

/-! ### Concrete states that meet the hypotheses of the statements -/

theorem test_witness_StepRunsTheFrontCommand :
    ({ State.reset with pending := [.status 1, .planOffer] } : State).pending = .status 1 :: [.planOffer] ∧
    State.reset.pending = [] := by decide

theorem reset_wellFormed : State.reset.WellFormed := ⟨by decide, by decide, by simp [State.reset], by simp [State.reset]⟩

theorem test_witness_StepKeepsTheInvariant : ∃ t, State.reset.WellFormed ∧ step State.reset = .next t :=
  ⟨_, reset_wellFormed, rfl⟩

theorem test_witness_OnlyConfigureChangesTheSettings : ∃ t, exec .kilosegmentEvent mounted = .next t := ⟨_, rfl⟩

theorem test_witness_OnlyTheGovernorChangesTheCurrentStep :
    (∃ t, exec .planOffer mounted = .next t) ∧ Instr.planOffer ≠ .governorWindowEnd := ⟨⟨_, rfl⟩, by decide⟩

/-- A response queue of this length. -/
def queued (s : State) (n : Nat) : State :=
  { s with link := { s.link with queue := List.replicate n { tag := 0, code := .ok, payload := .none } } }

theorem test_witness_RequestWithoutRoomIsRefused : requestTag (.status 1) = some 1 ∧
    16 < (queued mounted 16).link.queue.length + 1 + (if (queued mounted 16).link.outstanding.isSome then 1 else 0) ∧
    16 < (queued (doing mounted .scanHead) 15).link.queue.length + 1 +
      (if (queued (doing mounted .scanHead) 15).link.outstanding.isSome then 1 else 0) := by decide

theorem test_witness_AttentionLine :
    ({ pending := 2, seen := 2 } : Attention).pending &&& Kind.deferredError.bit ≠ 0 ∧
    ({ pending := 2, seen := 2 } : Attention).seen &&& Kind.deferredError.bit ≠ 0 := by decide

/-- A transaction of no byte leaves a refusal standing. -/
theorem test_empty_transaction :
    (after (exec (.linkTransaction []) { mounted with link := { mounted.link with refused := true } })).link.refused = true := by decide

theorem test_witness_LinkTransactions :
    (([] : List Byte) = [] ∨ ([] : List Byte).head? = some 0) ∧ ([0, 5] : List Byte).head? = some 0 ∧
    (([0x23, 7, 0] : List Byte).head? ≠ some 0 ∧ ([0x23, 7, 0] : List Byte).length < 4) ∧
    (0x29 = 0x29 ∧ (0 : Byte).toNat * 256 + (4 : Byte).toNat = 4 ∧ 4 ≤ ([0, 0, 0, 4] : List Byte).length) ∧
    parseFrame [0x01, 3, 0, 0] = .request (.status 3) ∧
    parseFrame [0x7F, 8, 0, 0] = .bad 8 ∧ ((queued mounted 15).shiftOut 4).hasRoom = true := by decide

/-- Room with the response queue at 15 of its 16 places. -/
theorem test_witness_room : (queued mounted 15).hasRoom = true ∧ State.reset.hasRoom = true := by decide

/-- Three pairs: the first identifier with a value above its range, the relax timeout 0, the last identifier. -/
def threePairs : List (Byte × Word32) := [(1, 0xFFFFFFFF), (6, 0), (0x13, 0x1FF)]

theorem test_witness_ConfigureTakesOrRejects :
    (∀ p ∈ threePairs, 1 ≤ p.1.toNat ∧ p.1.toNat ≤ 0x13) ∧ mounted.hasRoom = true ∧
    (threePairs ≠ [] ∧ threePairs.length ≤ 19 ∧ (threePairs.map Prod.fst).Nodup) ∧
    19 < (List.replicate 20 ((1 : Byte), (8 : Word32))).length ∧
    ¬(([((1 : Byte), (8 : Word32)), (1, 9)]).map Prod.fst).Nodup ∧
    (∃ p ∈ [((0 : Byte), (8 : Word32))], p.1.toNat = 0 ∨ 0x13 < p.1.toNat) ∧
    (∃ p ∈ [((0x14 : Byte), (8 : Word32))], p.1.toNat = 0 ∨ 0x13 < p.1.toNat) :=
  ⟨by simp [threePairs], by decide⟩

theorem test_witness_QueryCatalogAnswers : mounted.hasRoom = true ∧ mounted.medium.state = .mounted ∧
    (2 : Word32).toNat < mounted.catalog.blockCount ∧ (mounted.catalog.extents[0]? = some extent0 ∧
      extent0.firstBlock ≤ 2 ∧ 2 < extent0.firstBlock + extent0.blocks) ∧
    mounted.catalog.blockCount ≤ (3 : Word32).toNat ∧ mounted.catalog.extents[0]? = some extent0 ∧
    mounted.catalog.extents.length ≤ (1 : Word32).toNat ∧ (seated dataRecord).medium.state ≠ .mounted := by decide

/-- The tab in the protect position. -/
def protectedTape : State :=
  onMedium mounted fun m => { m with identity := some { identityOf dataRecord with tab := true } }

/-- Catalog valid set. -/
def validTape : State := onMedium mounted fun m => { m with identity := some (identityOf { dataRecord with valid := true }) }

/-- Zone 7 WRITE_ONCE. -/
def onceZone : State := onCatalog mounted fun c => { c with zones := c.zones.set 7 { Zone.unused with access := .writeOnce } }

theorem test_witness_SetZone :
    (mounted.hasRoom = true ∧ mounted.medium.state = .mounted ∧ mounted.isProtected = false ∧ mounted.cmBusy = false ∧
      (7 : Byte).toNat ≤ 7 ∧ parseSwitch (1 : Byte).toNat = some true ∧ Access.parse (3 : Byte).toNat = some .writeOnce ∧
      parseCompression (2 : Byte).toNat = some false ∧
      (mounted.catalog.zones.getD (7 : Byte).toNat Zone.unused).access ≠ .writeOnce ∧ mounted.catalogValid = false) ∧
    (validTape.hasRoom = true ∧ validTape.medium.state = .mounted ∧ validTape.isProtected = false ∧ validTape.cmBusy = false ∧
      (validTape.catalog.zones.getD 0 Zone.unused).access ≠ .writeOnce ∧ validTape.catalogValid = true ∧
      validTape.memoryFault = false ∧ (validTape.medium.identity.bind Identity.record).isSome = true) ∧
    ¬((8 : Byte).toNat ≤ 7) ∧ (seated dataRecord).medium.state ∈ [MediumState.empty, .seated, .ejected, .stuck, .cleaning] ∧
    (holding .unmounting .saving dataRecord).medium.state ∈
      [MediumState.threading, .mounting, .rebuilding, .unmounting, .unthreading] ∧
    (protectedTape.medium.state = .mounted ∧ protectedTape.isProtected = true) ∧
    (onceZone.medium.state = .mounted ∧ onceZone.isProtected = false ∧
      (onceZone.catalog.zones.getD (7 : Byte).toNat Zone.unused).access = .writeOnce) := by decide

theorem test_witness_LoadConditionTakes : (seated dataRecord).hasRoom = true ∧
    Attribution.parse (2 : Byte).toNat = some .medium ∧ (seated dataRecord).medium.state.unthreadedState = true ∧
    mounted.medium.state.unthreadedState = false ∧ Attribution.parse (0 : Byte).toNat = none := by decide

/-- `n` records of one serial with this attribution. -/
def wireRecords (n : Nat) (attribution : Byte) : List WireRecord :=
  List.replicate n ⟨List.replicate 12 0x42, 5, 6, 7, 8, 9, attribution⟩

theorem test_witness_LoadMediumRecordsReplaces : State.reset.hasRoom = true ∧ mounted.hasRoom = true ∧
    State.reset.medium.state ∈ [MediumState.empty, .seated, .ejected] ∧
    mounted.medium.state ∉ [MediumState.empty, .seated, .ejected] ∧
    ((∀ w ∈ wireRecords 32 3, 1 ≤ w.lastAttribution.toNat ∧ w.lastAttribution.toNat ≤ 3) ∧ (wireRecords 32 3).length ≤ 32) ∧
    ((∀ w ∈ wireRecords 33 1, 1 ≤ w.lastAttribution.toNat ∧ w.lastAttribution.toNat ≤ 3) ∧ 32 < (wireRecords 33 1).length) ∧
    (∀ a ∈ [(0 : Byte), 4], ¬∀ w ∈ wireRecords 1 a, 1 ≤ w.lastAttribution.toNat ∧ w.lastAttribution.toNat ≤ 3) := by decide

/-- Copies of one serial: the first is kept and the second dropped. -/
theorem test_records_dropped :
    (after (exec (.loadMediumRecords 1 (wireRecords 2 2)) State.reset)).link.queue.map Response.payload = [.recordsTaken 1 1] := by
  decide

/-- A LOCATE to block 2 whose tape travels. -/
def locating : State :=
  doing (moving mounted .locating (.travel (.locateEnd { wrap := 0, seg := 40 }))) (.locate .endOfData)

/-- A scan with `done` elements done, a window pair under way. -/
def scanning (done : Nat) (signal : Option Nat) : State :=
  let s := moving (doing mounted .scanHead) .streaming (.stream .scan)
  let scan : Scan :=
    { postClean := false, a := 15, b := 15, element := done, done := done, pass := 1, elapsed := 0, measuring := true,
      signal := signal, raised := false, ending := none }
  { s with head := { s.head with scan := some scan } }

theorem test_witness_Aborts_scan : ∀ s ∈ [scanning 3 none, onTransport (scanning 0 (some 9)) fun t =>
      { t with state := .locating, motion := .travel scanStream }],
    s.hasRoom = true ∧ s.Settled ∧ s.head.scan.isSome = true ∧
    s.link.outstanding = some { op := .scanHead, tag := 7, phase := .working } ∧
    s.transport.state ∈ [TransportState.streaming, .turnaround, .locating] ∧ s.transport.stop = .none := by decide

/-- An ABORT taken with all elements done and the tape not at rest leaves the scan's OK (R177). -/
theorem test_scan_done_keeps_ok :
    let s := scanning 18 none
    let s1 := onTransport { s with head := { s.head with scan := s.head.scan.map fun c => { c with ending := some .ok } } }
      fun t => { t with stop := .demanded none }
    (after (exec (.abort 1) s1)).head.scan.bind Scan.ending = some .ok := by decide

theorem test_witness_Aborts : (mounted.hasRoom = true ∧ mounted.link.outstanding = none) ∧
    ((doing mounted (.retireFrom 2)).link.outstanding = some { op := .retireFrom 2, tag := 7, phase := .working }) ∧
    (locating.hasRoom = true ∧ locating.Settled ∧
      locating.link.outstanding = some { op := .locate .endOfData, tag := 7, phase := .working } ∧
      locating.transport.state.moving = true) := by decide

theorem test_witness_ResetDriveClears : ((seated dataRecord).hasRoom = true ∧ (seated dataRecord).link.outstanding = none ∧
    (seated dataRecord).medium.state ∈ [MediumState.empty, .seated, .ejected]) ∧ locating.hasRoom = true ∧
    locating.link.outstanding = some { op := .locate .endOfData, tag := 7, phase := .working } ∧
    ((writing 2 5 []).hasRoom = true ∧ (writing 2 5 []).medium.state = .mounted ∧ (writing 2 5 []).writer.session = some 3 ∧
      (writing 2 5 []).writer.state ≠ .idle ∧
      (writing 2 5 []).link.outstanding = some { op := .writeBlocks 2, tag := 7, phase := .working }) := by decide

/-- The payload of the write that a reset aborts shows Current Block at block count (R194). -/
theorem test_reset_write_payload :
    (after (exec (.resetDrive 1) (writing 2 5 []))).link.queue =
      [{ tag := 1, code := .ok, payload := .none }, { tag := 7, code := .aborted, payload := .written 0 3 3 none }] := by
  decide +kernel

/-- A Deferred Error record held. -/
def deferring : State :=
  { mounted with writer := { Writer.idle with deferred := some { code := .writeFailed, firstLost := 3, lost := 0, further := 0 } } }

theorem test_witness_OperationsAreTurnedAway :
    (requestTag (.flush 1) = some 1 ∧ operationOf (.flush 1) = some .flush ∧ locating.hasRoom = true ∧ locating.Settled ∧
      locating.link.outstanding ≠ none) ∧
    (deferring.hasRoom = true ∧ deferring.Settled ∧ deferring.link.outstanding = none ∧ deferring.medium.state = .mounted ∧
      deferring.writer.deferred.isSome = true) := by decide

/-- A state that no operation is turned away from but for its Medium State. -/
abbrev quiet (s : State) : Prop :=
  s.hasRoom = true ∧ s.Settled ∧ s.link.outstanding = none ∧ s.medium.reading = false ∧ s.writer.deferred = none

theorem test_witness_OperationsByMediumState :
    requestTag (.scanHead 1) = some 1 ∧ operationOf (.scanHead 1) = some .scanHead ∧
    (quiet State.reset ∧ State.reset.medium.state ∈ [MediumState.empty, .ejected]) ∧
    (quiet (seated dataRecord) ∧ (seated dataRecord).medium.state = .seated) ∧
    (quiet (holding .stuck .idle dataRecord) ∧ (holding .stuck .idle dataRecord).medium.state = .stuck) ∧
    (quiet (holding .cleaning .cleanForward cleanerRecord) ∧ (holding .cleaning .cleanForward cleanerRecord).medium.state ∈
      [MediumState.threading, .mounting, .rebuilding, .unmounting, .unthreading, .cleaning]) ∧
    quiet mounted ∧
    (quiet (onMedium (seated dataRecord) fun m => { m with identity := none }) ∧
      (onMedium (seated dataRecord) fun m => { m with identity := none }).medium.identity.bind Identity.record = none) := by
  and_intros <;> decide

theorem test_witness_LoadThreads : quiet (seated dataRecord) ∧ (seated dataRecord).medium.state = .seated ∧
    (seated dataRecord).medium.identity.bind Identity.record = some dataRecord ∧ dataRecord.kind = .data ∧
    quiet (seated cleanerRecord) ∧ 0 < cleanerRecord.passes := by decide

theorem test_witness_EjectsFromSeated : quiet (seated { cleanerRecord with passes := 0 }) ∧
    (seated { cleanerRecord with passes := 0 }).medium.state = .seated ∧
    (seated { cleanerRecord with passes := 0 }).medium.identity.bind Identity.record = some { cleanerRecord with passes := 0 } ∧
    ({ cleanerRecord with passes := 0 } : CmRecord).kind = .cleaning := by decide

/-- MOUNTED with nothing of a session, as the operations find it. -/
abbrev quietMount (s : State) : Prop :=
  s.hasRoom = true ∧ s.Settled ∧ s.link.outstanding = none ∧ s.medium.state = .mounted ∧ s.writer.deferred = none ∧
  s.writer.state = .idle ∧ s.writer.session = none

theorem test_witness_quiet_mount : quietMount mounted ∧ mounted.transport.state = .stopped ∧ mounted.transport.known = true ∧
    mounted.catalog.positionValid = true ∧ mounted.reader.state = .idle := by decide

/-- The same with dirty set. -/
def dirtyTape : State := onCatalog mounted fun c => { c with dirty := true }

theorem test_witness_UnloadUnmounts :
    (quietMount mounted ∧ mounted.medium.write = none ∧ mounted.memoryFault = false ∧
      mounted.medium.identity.bind Identity.record = some dataRecord ∧ mounted.catalog.dirty = false) ∧
    (quietMount dirtyTape ∧ dirtyTape.medium.write = none ∧ dirtyTape.memoryFault = false ∧
      dirtyTape.catalog.dirty = true ∧ dirtyTape.isProtected = false) := by decide

/-- An extent on an odd wrap. -/
def extent1 : Extent := { extent0 with wrap := 1, first := 63999, last := 63900 }

theorem test_witness_LocateEstimate : extent0.firstBlock ≤ 2 ∧ 2 < extent0.firstBlock + extent0.blocks ∧
    extent0.wrap % 2 = 0 ∧ extent1.firstBlock ≤ 0 ∧ 0 < extent1.firstBlock + extent1.blocks ∧ extent1.wrap % 2 = 1 := by decide

theorem test_witness_LocateTravels :
    LocateTarget.parse (1 : Byte).toNat (3 : Word32).toNat = some (.block 3) ∧ mounted.catalog.blockCount ≤ 3 ∧
    LocateTarget.parse (2 : Byte).toNat (0 : Word32).toNat = some .endOfData ∧
    LocateTarget.parse (3 : Byte).toNat (0 : Word32).toNat = some .beginning ∧
    LocateTarget.parse (1 : Byte).toNat (0 : Word32).toNat = some (.block 0) ∧ 0 < mounted.catalog.blockCount ∧
    (quietMount (onTransport mounted fun t => { t with known := false }) ∧
      quietMount (onTransport mounted fun t => { t with state := .relaxed, tension := .hold })) := by decide

theorem test_witness_LocateSearches : 0 < (2 : Word32).toNat ∧ (2 : Word32).toNat < mounted.catalog.blockCount ∧
    extentOf mounted.catalog.extents (2 : Word32).toNat = some (0, extent0) ∧
    (onTransport mounted fun t => { t with pos := readyPoint { wrap := 0, seg := extent0.stopPoint 2 } }).transport.pos =
      readyPoint { wrap := 0, seg := extent0.stopPoint 2 } ∧
    mounted.transport.pos ≠ readyPoint { wrap := 0, seg := extent0.stopPoint 2 } := by decide

/-- Two elements DEAD. -/
def twoDead : State :=
  { mounted with head := { mounted.head with
      table := List.replicate 2 { Element.unscanned with status := .dead } ++ List.replicate 16 Element.unscanned } }

theorem test_witness_WriteRequests :
    (quietMount mounted ∧ (65535 : Word16) ≠ 0 ∧ mounted.catalog.positionValid = true ∧ mounted.isProtected = false ∧
      deadCount mounted.head.table < 2 ∧ mounted.writer.state ≠ .failed) ∧
    (quietMount (onCatalog mounted fun c => { c with positionValid := false })) ∧
    (quietMount protectedTape ∧ protectedTape.catalog.positionValid = true ∧ protectedTape.isProtected = true) ∧
    (quietMount twoDead ∧ twoDead.catalog.positionValid = true ∧ twoDead.isProtected = false ∧
      2 ≤ deadCount twoDead.head.table) := by
  and_intros <;> decide

/-- Current Block at block count. -/
def atEnd : State := onCatalog mounted fun c => { c with current := 3, location := none }

theorem test_witness_ReadBlocksBegins :
    (mounted.catalog.current ≠ mounted.catalog.blockCount ∧ mounted.catalog.location.isSome = true ∧
      extentOfStripe mounted.catalog.extents 0 = some (0, extent0) ∧ mounted.transport.state = .stopped ∧
      mounted.transport.pos ≠ readyPoint { wrap := 0, seg := 16 }) ∧
    (quietMount atEnd ∧ atEnd.reader.state = .idle ∧ atEnd.catalog.positionValid = true ∧
      atEnd.catalog.current = atEnd.catalog.blockCount) := by decide

theorem test_witness_SpaceBlocksMoves : quietMount mounted ∧ mounted.transport.state = .stopped ∧
    mounted.catalog.positionValid = true ∧ mounted.catalog.blockCount ≤ mounted.catalog.current + (2 : Word32).toNat ∧
    mounted.catalog.current < (2 : Word32).toNat ∧ mounted.catalog.current = (1 : Word32).toNat ∧
    (mounted.catalog.current + (1 : Word32).toNat < mounted.catalog.blockCount ∧
      extentOf mounted.catalog.extents 2 = some (0, extent0)) ∧
    ((1 : Word32).toNat < atEnd.catalog.current ∧ extentOf atEnd.catalog.extents 2 = some (0, extent0)) := by decide

theorem test_witness_SpaceMarkersMoves : (quietMount atEnd ∧ atEnd.transport.state = .stopped ∧
      atEnd.catalog.positionValid = true ∧ atEnd.catalog.location = none) ∧
    (quietMount (onCatalog mounted fun c => { c with extents := [] })) ∧
    (mounted.catalog.location = some { stripe := 0, wrap := 0, seg := 20, atZero := false, headerOnly := false } ∧
      extentOfStripe mounted.catalog.extents 0 = some (0, extent0) ∧ 0 < extent0.markers) := by
  and_intros <;> decide

theorem test_witness_FlushBegins : quietMount mounted ∧
    ((inSession .behind [readySlot 2 false, { slotIn .filling with stripe := some 3 }]).hasRoom = true ∧
      (inSession .behind [readySlot 2 false, { slotIn .filling with stripe := some 3 }]).Settled ∧
      (inSession .behind [readySlot 2 false, { slotIn .filling with stripe := some 3 }]).writer.state = .behind ∧
      ((inSession .behind [readySlot 2 false, { slotIn .filling with stripe := some 3 }]).queue.slots.any
        fun x => x.state == .ready) = true ∧
      (inSession .behind [readySlot 2 false, { slotIn .filling with stripe := some 3 }]).fillingSlot = some 1) := by decide

theorem test_witness_RetireFromBegins : quietMount mounted ∧ mounted.isProtected = false ∧ mounted.medium.write = none ∧
    mounted.memoryFault = false ∧ mounted.medium.identity.bind Identity.record = some dataRecord ∧
    mounted.catalog.blockCount < (4 : Word32).toNat ∧ (3 : Word32).toNat = mounted.catalog.blockCount ∧
    (2 : Word32).toNat < mounted.catalog.blockCount ∧
    rangeOverlapped (onCatalog mounted fun c => { c with zones := List.replicate 8 Zone.unused }).catalog.zones 2 3 = false ∧
    rangeProtected (onCatalog mounted fun c => { c with zones := List.replicate 8 Zone.unused }).catalog.zones 2 3 = false ∧
    quietMount (onCatalog mounted fun c => { c with zones := List.replicate 8 Zone.unused }) ∧
    extentOf mounted.catalog.extents (2 : Word32).toNat = some (0, extent0) := by
  and_intros <;> decide

theorem test_witness_ScanHeadBegins : quietMount mounted ∧ mounted.transport.state = .stopped ∧
    mounted.transport.known = true ∧ mounted.transport.pos ≠ { wrap := 0, seg := -2, tach := 0 } ∧
    quietMount (onTransport mounted fun t => { t with pos := { wrap := 0, seg := -2, tach := 0 } }) := by decide

/-! ### The cartridge, the threader and the cartridge memory -/

/-- An eject under way, to be answered OK. -/
def ejecting : State :=
  onMedium (doing (holding .seated .ejecting dataRecord) .unload) fun m =>
    { m with after := some { eject := true, code := some .ok, retry := false } }

/-- A cartridge being read in EMPTY. -/
def beingRead : State := onMedium State.reset fun m => { m with present := true, reading := true, phase := .readingRecord }

/-- SEATED with the write of a SET ZONE still under way, as RESET DRIVE leaves it. -/
def settingZone : State := onMedium (seated dataRecord) fun m =>
  { m with write := some { purpose := .setZone 9 1 Zone.unused, second := false, record := dataRecord } }

theorem test_witness_CartridgeInTheSlot :
    (State.reset.medium.state = .empty ∧ State.reset.medium.present = false) ∧
    (beingRead.Settled ∧ beingRead.link.outstanding = none ∧ beingRead.medium.state = .empty ∧ beingRead.medium.reading = true) ∧
    (ejecting.medium.phase = .ejecting ∧ ejecting.medium.after.bind AfterUnthread.code = some .ok ∧
      ejecting.medium.unmount = none ∧ ejecting.link.outstanding = some { op := .unload, tag := 7, phase := .working }) ∧
    ((seated dataRecord).Settled ∧ (seated dataRecord).link.outstanding = none ∧ (seated dataRecord).medium.present = true ∧
      (seated dataRecord).medium.state ∈ [MediumState.seated, .ejected] ∧ (seated dataRecord).medium.waiting = [] ∧
      (seated dataRecord).medium.heldZones = []) ∧
    (settingZone.Settled ∧ settingZone.link.outstanding = none ∧ settingZone.medium.present = true ∧
      settingZone.medium.state = .seated ∧ settingZone.medium.waiting = [] ∧ settingZone.medium.heldZones = []) ∧
    (∀ m ∈ [MediumState.threading, .mounting, .rebuilding, .mounted, .unmounting, .unthreading, .cleaning],
      (holding m .idle dataRecord).medium.present = true ∧ (holding m .idle dataRecord).medium.state = m ∧
        (holding m .idle dataRecord).writer.state = .idle) := by
  and_intros <;> decide

/-- A LOAD under way in a phase of the threader. -/
def threading (m : MediumState) (p : MediumPhase) (r : CmRecord) : State :=
  onTransport (doing (holding m p r) .load) fun t => { t with state := .threadMotion, tension := .threading }

/-- The leader on its way back, with what follows. -/
def comingBack (eject : Bool) : State :=
  onMedium (threading .unthreading .returning dataRecord) fun m =>
    { m with after := some { eject := eject, code := some .threadFault, retry := false } }

theorem test_witness_ThreadingAndUnthreading :
    (threading .threading (.capturing 2) dataRecord).medium.phase = .capturing 2 ∧ 2 < 3 ∧
    ((threading .threading (.capturing 3) dataRecord).medium.phase = .capturing 3 ∧ 3 ≤ 3 ∧
      (threading .threading (.capturing 3) dataRecord).transport.state = .threadMotion) ∧
    (threading .unthreading .windingBack dataRecord).medium.phase = .windingBack ∧
    ((comingBack false).Settled ∧ (comingBack false).medium.phase = .returning ∧ (comingBack false).medium.present = true ∧
      (comingBack false).medium.after = some { eject := false, code := some .threadFault, retry := false } ∧
      (comingBack false).link.outstanding = some { op := .load, tag := 7, phase := .working }) ∧
    ((comingBack true).Settled ∧ (comingBack true).medium.phase = .returning ∧ (comingBack true).medium.present = true ∧
      (comingBack true).medium.after = some { eject := true, code := some .threadFault, retry := false }) := by
  and_intros <;> decide

/-- The tape wound to tension for this record. -/
def winding (r : CmRecord) : State := threading .threading .winding r

/-- A cleaning pass with all its tach counts made. -/
def passMade (p : MediumPhase) : State :=
  onMedium (moving (holding .cleaning p cleanerRecord) .streaming (.stream .cleaning)) fun m => { m with passCounts := 153600 }

/-- The position changed. -/
def atPos (s : State) (wrap : Nat) (seg : Int) (tach : Nat) : State :=
  onTransport s fun t => { t with pos := { wrap := wrap, seg := seg, tach := tach }, markSeen := true }

theorem test_witness_TheTapeAtTension :
    ((winding freshRecord).Settled ∧
      (winding freshRecord).medium.identity.bind Identity.record = some freshRecord ∧
      (winding freshRecord).medium.phase = .winding ∧ freshRecord.kind = .data ∧ freshRecord.valid = false ∧
      freshRecord.everWritten = false ∧ (winding freshRecord).head.postClean = false ∧
      (winding freshRecord).memoryFault = false ∧ (winding freshRecord).medium.write = none) ∧
    ((atPos (winding freshRecord) 3 20 5).Settled ∧ (atPos (winding freshRecord) 3 20 5).transport.pos.wrap % 2 = 1) ∧
    ((winding { dataRecord with valid := true }).Settled ∧ (winding { dataRecord with valid := true }).transport.known = false) ∧
    ((winding dataRecord).Settled ∧ dataRecord.valid = false ∧ dataRecord.everWritten = true ∧
      (winding dataRecord).transport.known = false) ∧
    ((winding cleanerRecord).Settled ∧ (winding cleanerRecord).medium.phase = .winding ∧ cleanerRecord.kind = .cleaning) ∧
    (let s := passMade .cleanForward
     s.Settled ∧ s.medium.identity.bind Identity.record = some cleanerRecord ∧ s.medium.phase = .cleanForward ∧
      s.medium.passCounts = 153600) ∧
    (let s := passMade .cleanBack
     s.Settled ∧ s.medium.phase = .cleanBack ∧ s.medium.passCounts = 153600 ∧ s.transport.deferred = none ∧
      s.memoryFault = false ∧ s.medium.write = none) := by
  and_intros <;> decide

/-- A cartridge memory write under way in MOUNTED. -/
def cmWriting (p : CmPurpose) (second : Bool) : State :=
  onMedium mounted fun m => { m with write := some { purpose := p, second := second, record := dataRecord } }

/-- The load-count write under way. -/
def countingLoad : State :=
  onMedium (doing (holding .mounting .mountWrite dataRecord) .load) fun m =>
    { m with source := .rebuilt, write := some { purpose := .mountCompletion, second := false, record := dataRecord } }

theorem test_witness_CartridgeMemoryWriteEnds :
    (dataRecord.bytes.length = 37 ∧ CmRecord.parse (some dataRecord.bytes) = some dataRecord) ∧
    ((cmWriting (.setZone 7 1 Zone.unused) false).Settled ∧
      (cmWriting (.setZone 7 1 Zone.unused) false).medium.identity = some (identityOf dataRecord) ∧
      (cmWriting (.setZone 7 1 Zone.unused) false).medium.waiting = [] ∧
      (cmWriting (.setZone 7 1 Zone.unused) false).medium.heldZones = []) ∧
    ((cmWriting (.setZone 7 1 Zone.unused) true).Settled ∧ ¬(none = some dataRecord.bytes ∧ CmRecord.parse none ≠ none)) ∧
    (countingLoad.Settled ∧ countingLoad.medium.phase = .mountWrite ∧ dataRecord.kind = .data ∧ countingLoad.head.pc < 400 ∧
      countingLoad.medium.source ∈ [Code.ok, .rebuilt, .rebuiltShort] ∧ countingLoad.medium.heldZones = [] ∧
      countingLoad.link.outstanding = some { op := .load, tag := 7, phase := .working }) := by
  and_intros <;> decide +kernel

/-- A load-count write that a RESET DRIVE has left under way does not end a later mount (R56). -/
theorem test_late_write :
    let s := onMedium countingLoad fun m => { m with
      write := m.write.map fun w => { w with purpose := .lateWrite }, waiting := [.mountCompletion] }
    let t := after (exec (.cartridgeMemoryWriteDone (some dataRecord.bytes)) s)
    t.medium.phase = .mountWrite ∧ t.medium.write.map CmWrite.purpose = some .mountCompletion ∧
      t.link.outstanding = s.link.outstanding := by decide +kernel

/-- R57: after a motion fault a load-count write that waits is not made. -/
theorem test_mount_write_dropped :
    let s := onMedium countingLoad fun m => { m with
      write := m.write.map fun w => { w with purpose := .lateWrite }, waiting := [.mountCompletion] }
    s.medium.waiting ≠ [] ∧ (s.failMount .positionLost).medium.waiting = [] := by decide

/-- R52, R65: with catalog valid set a SET ZONE of the stored values too makes the write that clears it (assumption 46). -/
theorem test_zone_unchanged :
    let t := after (exec (.setZone 1 7 0 0 16 1 1) (onCatalog validTape fun c =>
      { c with zones := c.zones.set 7 (Zone.made false 0 16 .readWrite true) }))
    t.catalog.dirty = false ∧ (t.medium.write.map fun w => w.record.valid) = some false ∧ t.link.queue.length = 0 := by decide

/-! ### The transport -/

/-- A copy of stripe 2 in flight from this segment of wrap 0. -/
def flying (s : State) (seg : Int) : State :=
  { s with tape := { s.tape with flights := [{ addr := ⟨0, seg⟩, slot := none, stripe := 2, copy := 0, underrun := false }] } }

/-- Tach 62 on the even wrap 0 and tach 1 on the odd wrap 63 at the last segment; the ends of the counter's numbering. -/
theorem test_witness_CounterMoves :
    (let s := atPos (onTransport mounted fun t => { t with state := .threadMotion }) 0 0 63
     s.Settled ∧ s.transport.state = .threadMotion ∧ s.transport.motion ≠ .stream .cleaning ∧ -32 < s.transport.pos.seg ∧
      s.transport.pos.seg < 64031) ∧
    (let s := atPos (onTransport (moving mounted .turnaround (.stream .read)) fun t => { t with stop := .controlled none }) 0 64000 5
     s.Settled ∧ s.transport.state = .turnaround ∧ s.transport.stop = .controlled none ∧ s.transport.motion ≠ .stream .cleaning ∧
      s.transport.pos.seg < 64031) ∧
    ((atPos locating 0 63999 62).Settled ∧
      (atPos locating 0 63999 62).transport.state ∈ [TransportState.locating, .streaming, .backhitch] ∧
      (atPos locating 0 63999 62).transport.motion ≠ .stream .cleaning ∧
      (ReelDirection.forward = .forward ↔ (atPos locating 0 63999 62).transport.pos.wrap % 2 = 0) ∧
      (atPos locating 0 63999 62).transport.pos.tach < 63) ∧
    ((atPos locating 63 0 1).Settled ∧ (ReelDirection.forward = .forward ↔ (atPos locating 63 0 1).transport.pos.wrap % 2 = 1) ∧
      0 < (atPos locating 63 0 1).transport.pos.tach) ∧
    ((atPos locating 0 (-31) 0).transport.markSeen = true ∧ (atPos locating 0 (-31) 0).transport.missing < 8 ∧
      -32 < (atPos locating 0 (-31) 0).transport.pos.seg ∧ (atPos locating 0 64030 0).transport.pos.seg < 64031) ∧
    (∀ r, locating.transport.stop ≠ .demanded r) ∧
    (let s := onTransport (atPos locating 63 64030 9) fun t => { t with stop := .demanded none }
     s.Settled ∧ s.transport.state = .locating ∧ s.transport.markSeen = true ∧ s.transport.missing < 8 ∧
      s.transport.pos.seg < 64031) ∧
    (locating.headTarget = some 0 ∧ (atPos locating 1 100 0).headTarget = some 0 ∧ (atPos locating 1 100 0).transport.pos.wrap = 1) ∧
    (let s := flying (atPos (moving mounted .backhitch (.stream .write)) 0 100 3) 97
     s.Settled ∧ s.transport.state = .backhitch ∧
      ∀ f ∈ s.tape.flights, ordinal f.addr + 3 ≠ ordinal { wrap := 0, seg := 101 }) ∧
    ((moving mounted .streaming (.stream .write)).Settled ∧
      (moving mounted .streaming (.stream .write)).transport.state = .streaming) := by
  and_intros
  all_goals first | decide | exact nofun

/-- A capture before a boundary in RELAXED does not stand for the next boundary (R72). -/
theorem test_capture_spent : (after (exec (.segmentBoundary false { ended := [], check := [] })
    (moving mounted .relaxed .idle))).transport.markSeen = false := by decide

/-- R78: a run-up whose counter a mark has set back passes segments with PASS until it reaches the stream's first one. -/
theorem test_run_up_set_back :
    let s := onTransport (moving (inSession .behind [readySlot 2 true]) .streaming (.stream .write)) fun t =>
      { t with runUp := 0, startAt := some { wrap := 0, seg := 102 }, active := some .pass, standby := some .gap }
    let t := after (exec (.segmentBoundary false ⟨[], []⟩) s)
    t.transport.startAt = some { wrap := 0, seg := 102 } ∧ t.transport.active = some .pass ∧
      (after (exec (.segmentBoundary false ⟨[], []⟩) t)).transport.startAt = none ∧
      (after (exec (.segmentBoundary false ⟨[], []⟩) t)).transport.active = some .gap := by decide +kernel

/-- A LOCATE taken in AHEAD while the read stream is on its way to its ready point has that motion stopped (R151). -/
theorem test_travel_halted :
    let s := moving { mounted with reader := { Reader.idle with state := .ahead, nextDrain := some 0, extent := some 0 } }
      .locating (.travel (.stream .read { wrap := 0, seg := 16 }))
    let t := after (exec (.locate 1 1 2) s)
    t.transport.stop = .demanded none ∧ t.transport.deferred.isSome = true ∧ t.reader.state = .idle := by decide

/-- A re-acquisition for a LOCATE to the end. -/
def reacquiring : State :=
  doing (moving mounted .streaming (.reacquire (.locateEnd { wrap := 0, seg := 40 }))) (.locate .endOfData)

/-- A read stream that a mark has set back over one boundary, on the odd wrap 1. -/
def setBack : State :=
  onTransport (atPos (moving mounted .streaming (.stream .read)) 1 101 0) fun t => { t with unhanded := 1, markSeen := true }

/-- R71: a mark that sets the counter of a stream back leaves the plan active, and the boundary is not handed again. -/
theorem test_set_back :
    let s := onTransport (atPos (moving mounted .streaming (.stream .write)) 0 101 10) fun t => { t with active := some (.write 5 9 0) }
    let t := after (exec (.servoMarkCapture 100 []) s)
    t.transport.pos = { wrap := 0, seg := 100, tach := 0 } ∧ t.transport.unhanded = 1 ∧
      (after (exec (.segmentBoundary false ⟨[], []⟩) t)).transport.pos = { wrap := 0, seg := 101, tach := 0 } ∧
      (after (exec (.segmentBoundary false ⟨[], []⟩) t)).transport.active = some (.write 5 9 0) := by decide

theorem test_witness_ServoMarks :
    (locating.Settled ∧ locating.transport.state = .locating ∧ ∀ r, locating.transport.motion ≠ .rewind r) ∧
    (∀ seg tach, (seg, tach) ∈ [((100 : Int), 4), (100, 5)] → (atPos locating 0 seg tach).Settled) ∧
    ((({ wrap := 0, seg := 100, tach := 4 } : Pos).along - markPoint 0 100).natAbs ≤ 4 ∧
      4 < ({ wrap := 0, seg := 100, tach := 5 } : Pos).along - markPoint 0 100 ∧ 5 < 64) ∧
    (∀ s ∈ [atPos locating 0 99 59, atPos (moving mounted .backhitch (.stream .write)) 1 101 59],
      s.Settled ∧ (s.transport.state = .locating ∨ s.transport.state = .backhitch) ∧ s.tape.flights = [] ∧
      s.transport.against = false ∧
      (s.transport.pos.seg - 100) * (if s.transport.pos.wrap % 2 = 0 then 1 else -1) * 64 + s.transport.pos.tach = -5) ∧
    ((moving mounted .streaming (.stream .read)).Settled ∧ (moving mounted .streaming (.stream .read)).transport.state = .streaming ∧
      (moving mounted .streaming (.stream .read)).transport.motion = .stream .read ∧ Owner.read ≠ .cleaning) ∧
    (∀ s ∈ [setBack, onTransport setBack fun t => { t with against := true }],
      s.Settled ∧ s.transport.state = .streaming ∧ s.transport.motion = .stream .read ∧ s.transport.stop = .none ∧
      0 < s.transport.unhanded ∧ s.transport.markSeen = true ∧ s.transport.missing < 8 ∧
      (100 - s.transport.pos.seg) * (if s.transport.pos.wrap % 2 = 0 then 1 else -1) = 1) ∧
    ((onTransport reacquiring fun t => { t with stop := .immediate }).Settled) ∧
    ((moving locating .locating (.rewind .unmountRewind)).Settled) ∧
    (reacquiring.Settled ∧ reacquiring.transport.state = .streaming ∧ reacquiring.transport.stop = .none ∧
      reacquiring.transport.motion = .reacquire (.locateEnd { wrap := 0, seg := 40 }) ∧
      reacquiring.transport.deferred = none) := by
  refine ⟨⟨by decide, by decide, nofun⟩, ?_, by decide, by decide, by decide, by decide, by decide, by decide, by decide⟩
  intro seg tach h
  simp only [List.mem_cons, Prod.mk.injEq, List.not_mem_nil, or_false] at h
  obtain ⟨rfl, rfl⟩ | ⟨rfl, rfl⟩ := h <;> decide

theorem test_witness_MotionFaults :
    (locating.Settled ∧ locating.transport.deferred = none ∧ locating.transport.stop = .none ∧
      locating.link.outstanding = some { op := .locate .endOfData, tag := 7, phase := .working } ∧
      locating.medium.state = .mounted ∧ locating.transport.known = true ∧ locating.transport.state = .locating ∧ locating.transport.motion = .travel (.locateEnd { wrap := 0, seg := 40 })) ∧
    (reacquiring.Settled ∧ reacquiring.link.outstanding = some { op := .locate .endOfData, tag := 7, phase := .working }) ∧
    ((threading .threading (.capturing 1) dataRecord).Settled ∧
      (threading .threading (.capturing 1) dataRecord).transport.state = .threadMotion) := by
  and_intros <;> decide

/-- The unmount's rewind to the reel. -/
def reelRewinding : State :=
  onMedium (doing (moving (holding .unmounting .rewinding dataRecord) .locating (.rewind .reelRewind)) .unload) fun m =>
    { m with unmount := some { saveNeeded := false, session := 2, nextStripe := 2, blockCount := 3, save := some .notNeeded,
                               written := some true, flush := none, motionFault := false } }

theorem test_witness_TensionAndRewind :
    ((moving mounted .relaxed (.retension (.locateEnd { wrap := 0, seg := 40 }))).Settled ∧
      (moving mounted .relaxed (.retension (.locateEnd { wrap := 0, seg := 40 }))).transport.tension = .working ∧
      (moving mounted .relaxed (.retension (.locateEnd { wrap := 0, seg := 40 }))).transport.known = true) ∧
    (mounted.Settled ∧ mounted.transport.state = .stopped ∧ mounted.transport.relaxTimer = true ∧
      mounted.settings.relaxTimeout ≠ 0) ∧
    ({ mounted with settings := { mounted.settings with relaxTimeout := 0 } }.Settled) ∧
    ((moving locating .locating (.rewind .unmountRewind)).Settled ∧ MotionReq.unmountRewind ≠ .reelRewind ∧
      (moving locating .locating (.rewind .unmountRewind)).transport.stop = .none) ∧
    (let s := onTransport (moving locating .locating (.rewind (.locateEnd ⟨0, 40⟩))) fun t => { t with stop := .demanded none }
     s.Settled ∧ s.transport.deferred = none ∧ MotionReq.locateEnd ⟨0, 40⟩ ≠ .reelRewind) ∧
    (reelRewinding.Settled ∧ reelRewinding.transport.motion = .rewind .reelRewind ∧ reelRewinding.transport.stop = .none ∧
      reelRewinding.transport.deferred = none ∧ reelRewinding.medium.unmount.isSome = true) := by
  and_intros <;> decide

/-- A session in BEHIND whose stream has ended after wrap 63 with one READY stripe left. -/
def endOfTape : State :=
  onTransport (moving (inSession .behind [readySlot 2 false]) .streaming (.stream .write)) fun t =>
    { t with pos := { wrap := 63, seg := -1, tach := 0 }, stop := .endOfArea }

/-- A save in the deceleration of its stop, the check of its copy outstanding. -/
def saveStopping (d : Option Bool) : State :=
  let s := onMedium (moving (holding .unmounting .saving dataRecord) .backhitch (.stream .save)) fun m =>
    { m with unmount := some { saveNeeded := true, session := 2, nextStripe := 2, blockCount := 3, save := none, written := none,
                               flush := none, motionFault := false } }
  flying (onCatalog (onTransport (doing s .unload) fun t => { t with stop := .controlled none }) fun c =>
    { c with work := .save 1 d }) 15

theorem test_witness_MotionsComeToRest_save : ∀ d ∈ [none, some true, some false],
    (saveStopping d).Settled ∧ (saveStopping d).transport.deferred = none ∧ (saveStopping d).transport.state = .backhitch ∧
    (saveStopping d).transport.motion = .stream .save ∧ (saveStopping d).medium.write = none ∧
    (saveStopping d).memoryFault = false ∧ (saveStopping d).medium.unmount.isSome = true ∧
    (saveStopping d).medium.identity.bind Identity.record = some dataRecord := by decide

theorem test_witness_MotionsComeToRest :
    (locating.Settled ∧ locating.transport.deferred = none ∧ locating.transport.state = .locating ∧
      locating.transport.motion = .travel (.locateEnd { wrap := 0, seg := 40 }) ∧ locating.catalog.blockCount ≤ 3) ∧
    ((doing locating (.locate .beginning)).Settled ∧ (doing locating (.locate (.block 3))).Settled) ∧
    ((onTransport (readingBlocks 1 []) fun t => { t with state := .locating, motion := .travel (.stream .read ⟨0, 16⟩) }).Settled ∧
      (onTransport (readingBlocks 1 []) fun t =>
        { t with state := .locating, motion := .travel (.stream .read ⟨0, 16⟩) }).wantsStream .read = true) ∧
    ((onTransport (readingBlocks 1 []) fun t => { t with state := .backhitch, stop := .controlled (some ⟨0, 16⟩) }).Settled ∧
      (readingBlocks 1 []).transport.motion ≠ .stream .save) ∧
    ((onTransport locating fun t => { t with stop := .immediate }).Settled ∧ locating.transport.state.moving = true) ∧
    ((onTransport (readingBlocks 1 []) fun t => { t with motion := .stream .read, stop := .endOfArea }).Settled ∧
      (readingBlocks 1 []).tape.flights = []) := by
  and_intros <;> decide

theorem test_witness_MotionsComeToRest_end :
    endOfTape.Settled ∧ endOfTape.transport.deferred = none ∧ endOfTape.transport.state = .streaming ∧
    endOfTape.transport.motion = .stream .write ∧ endOfTape.transport.stop = .endOfArea ∧ endOfTape.tape.flights = [] ∧
    endOfTape.link.outstanding = none ∧ endOfTape.writer.state = .behind ∧ endOfTape.sessionOpen = true ∧
    endOfTape.writer.fault = none ∧ endOfTape.lowest Slot.isReady = some 2 ∧
    (endOfTape.lowest fun t => t.isReady || (t.state == .filling)) = some 2 ∧
    ∀ slot ∈ endOfTape.queue.slots, slot.isWrite = true → ∃ m, slot.stripe = some m ∧ 2 ≤ m := by
  have h : ∀ slot ∈ endOfTape.queue.slots, slot.isWrite = true → slot.stripe = some 2 := by decide +kernel
  and_intros
  all_goals first | exact fun slot m w => ⟨2, h slot m w, Nat.le_refl 2⟩ | decide +kernel

/-! ### The Head Monitor and the Governor -/

/-- An open mount with a PC of 400 and this spread set. -/
def evidence (spread : List Nat) : State :=
  { mounted with head := { mounted.head with
      pc := 400, spread := spread, decayRun := 511
      records := [MediumRecord.fresh dataRecord.serial 1]
      mount := { isOpen := true, serial := dataRecord.serial, index := 0, counted := 18, failed := 4 } } }

theorem test_witness_HeadCounts :
    0 < (onTransport mounted fun t => { t with kilosegments := 1 }).transport.kilosegments ∧ 511 ≤ (evidence [0, 1, 2, 3]).head.decayRun ∧
    ((evidence [0, 1, 2, 3]).head.mount.isOpen = true ∧ 400 ≤ (evidence [0, 1, 2, 3]).head.pc ∧
      4 ≤ (evidence [0, 1, 2, 3]).head.spread.length) ∧
    ((evidence [0, 1, 2]).head.spread.length < 4 ∧ (evidence [0, 1, 2]).head.last ≠ .head ∧
      ((evidence [0, 1, 2]).head.records[(evidence [0, 1, 2]).head.mount.index]?).isSome = true) := by
  and_intros <;> decide

/-- FOLLOW on, element 0 scanned, element 1 not. -/
def following : State :=
  { mounted with
    settings := { Settings.default with follow := true }
    head := { mounted.head with
      table := { Element.unscanned with amplitude := 200, noise := 20, margin := 180, status := .good } ::
        List.replicate 17 Element.unscanned } }

theorem test_witness_FollowMode :
    ((following.head.table[0]?).isSome = true ∧ following.settings.follow = true ∧
      following.head.table[0]?.map Element.status = some .good) ∧
    (following.head.table[17]? = some Element.unscanned ∧ mounted.settings.follow = false) ∧
    (∃ t, exec (.configure 1 [(0x10, 1)]) following = .next t) ∧
    (({ Element.unscanned with amplitude := 20, noise := 20, status := .dead } : Element).status = .dead ∧
      Settings.default.deadThreshold ≤ (7 * 20 + 255) / 8 - 20) :=
  ⟨by decide, by decide, ⟨_, rfl⟩, by decide⟩

theorem test_witness_ScanWindows :
    ((scanning 0 none).Settled ∧ (scanning 0 none).head.scan.isSome = true ∧
      (scanning 0 none).head.scan.map Scan.measuring = some true ∧ (scanning 0 none).head.scan.map Scan.ending = some none) ∧
    ((scanning 16 (some 200)).Settled ∧ 16 + 1 < 18 ∧ ((scanning 16 (some 200)).head.table[16]?).isSome = true) ∧
    ((scanning 17 (some 200)).Settled ∧ ((scanning 17 (some 200)).head.table[17]?).isSome = true ∧
      (scanning 17 (some 200)).transport.state = .streaming ∧ (scanning 17 (some 200)).transport.stop = .none) := by
  and_intros <;> decide

/-- A current step and down-count. -/
def governed (step down : Nat) (quick : Bool) : State :=
  { mounted with gov := { mounted.gov with step := step, down := down, quick := quick } }

/-- With no stored bytes the target is 0; with 107 segments' bytes it is 1. -/
theorem test_witness_GovernorWindowEnds :
    (Window.made 0 5 0).target = 0 ∧ (governed 3 1 false).gov.down < 2 ∧ 2 ≤ (governed 3 2 false).gov.down ∧
    (governed 3 0 true).gov.quick = true ∧
    (Window.made 0 5 (107 * 65536)).target = 1 := by decide

/-! ### The write path -/

theorem test_witness_WordsIn :
    ((awaiting (.writeBlocks 2) 2).link.outstanding = some { op := .writeBlocks 2, tag := 7, phase := .working } ∧
      (awaiting (.writeBlocks 2) 2).writer.state = .accepting ∧ (awaiting (.writeBlocks 2) 2).writer.refusal = none ∧
      (awaiting (.writeBlocks 2) 2).port.phase = .length ∧ (awaiting (.writeBlocks 2) 2).port.lengthWord = none ∧
      (awaiting (.writeBlocks 2) 2).port.taken < (awaiting (.writeBlocks 2) 2).writer.requested ∧
      1 ≤ (262144 : Word32).toNat ∧ (262144 : Word32).toNat ≤ 262144 ∧ 262144 < (262145 : Word32).toNat ∧
      (awaiting (.writeBlocks 2) 2).engine.block = none) ∧
    ((awaiting (.writeMarkers 2) 2).link.outstanding = some { op := .writeMarkers 2, tag := 7, phase := .working } ∧
      (awaiting (.writeMarkers 2) 2).port.phase = .length) ∧
    (requestDirection (writing 2 5 []) = some .inward ∧ (writing 2 5 []).writer.state = .accepting ∧ 0 < (writing 2 5 []).writer.requested ∧
      (writing 2 5 []).port.phase = .data ∧ stagesHeld (writing 2 5 []).queue.slots = true ∧
      (writing 2 5 []).engine.ring.length + min 4 (writing 2 5 []).port.bytesLeft ≤ 262144 ∧
      (writing 2 5 []).engine.block = none) ∧
    dpReady mounted = false ∧ requestDirection (readingBlocks 2 []) ≠ some .inward := by
  and_intros <;> decide

/-- No session open, Current Block at the end, no zone protecting it. -/
def firstBlock : State :=
  let s := doing atEnd (.writeBlocks 1)
  { s with
    writer := { Writer.idle with state := .accepting, requested := 1 }
    port := { Port.idle with phase := .data, lengthWord := some 9, remaining := 3, bytesLeft := 9, taken := 1 }
    catalog := { s.catalog with zones := List.replicate 8 Zone.unused } }

/-- The same under session 3. -/
def laterBlock : State :=
  onCatalog (writing 1 9 []) fun c => { c with zones := List.replicate 8 Zone.unused }

theorem test_witness_BlockAdmission :
    (laterBlock.link.outstanding = some { op := .writeBlocks 1, tag := 7, phase := .working } ∧
      (Op.writeBlocks 1).isWrite = true ∧ laterBlock.writer.state = .accepting ∧ 0 < laterBlock.writer.requested ∧
      laterBlock.writer.refusal = none ∧ laterBlock.writer.opening = false ∧ laterBlock.engine.block = none ∧
      laterBlock.port.lengthWord = some 9 ∧ laterBlock.catalog.current ≠ 4294967295 ∧
      overlapped laterBlock.catalog.zones laterBlock.catalog.current = false ∧ laterBlock.sessionOpen = true ∧
      accessOf laterBlock.catalog.zones laterBlock.catalog.current ≠ .readOnly) ∧
    (overlapped (writing 1 9 []).catalog.zones (writing 1 9 []).catalog.current = false ∧
      (writing 1 9 []).sessionOpen = true ∧
      accessOf (writing 1 9 []).catalog.zones (writing 1 9 []).catalog.current = .readOnly) ∧
    (firstBlock.sessionOpen = false ∧ firstBlock.catalog.current = firstBlock.catalog.blockCount ∧
      accessOf firstBlock.catalog.zones firstBlock.catalog.current ≠ .readOnly ∧
      atEndOfArea firstBlock.appendSegment = false ∧ firstBlock.memoryFault = false ∧ firstBlock.medium.write = none ∧
      firstBlock.medium.identity.bind Identity.record = some dataRecord) := by
  and_intros <;> decide

/-- A block of three bytes whose placement waits, with the slots given. -/
def placing (slots : List Slot) : State :=
  let s := writing 4 3 slots
  { s with engine := { s.engine with block := some ((BlockRecord.opened 1 3 false false).run [1, 2, 3]), ring := [1, 2, 3] } }

/-- A FILLING slot of stripe 2. -/
def fillingSlot : Slot := { slotIn .filling with stripe := some 2, account := some (Account.opened 0), payload := [9] }

theorem test_witness_Placement :
    ((placing [fillingSlot]).Settled ∧ (placing [fillingSlot]).engine.block.map BlockRecord.phase = some .placing ∧
      (placing [fillingSlot]).engine.block.map (fun b => b.rest.length) = some 19 ∧
      (placing [fillingSlot]).writeOutstanding = true ∧ (placing [fillingSlot]).opPhase = some .working ∧
      (placing [fillingSlot]).writer.accepted + 1 < (placing [fillingSlot]).writer.requested ∧
      (placing [fillingSlot]).writer.refusal = none ∧ (placing [fillingSlot]).fillingSlot = some 0 ∧
      ((placing [fillingSlot]).slot 0).payload.length + 16 ≤ 262144) ∧
    ((placing []).Settled ∧ (placing []).fillingSlot = none ∧ (placing []).lowestFree = some 2 ∧
      (if (placing []).writer.opened then (placing []).writer.highestStripe.getD 0 + 1 else (placing []).catalog.append.stripe) ≤
        4095983) ∧
    ({ placing [fillingSlot] with queue := { (placing [fillingSlot]).queue with fillTimer := true } }.fillingSlot = some 0) ∧
    (placing []).queue.fillTimer = false := by
  and_intros <;> decide +kernel

/-- A write stream in session 3 with these slots. -/
def writeStream (slots : List Slot) : State := moving (inSession .behind slots) .streaming (.stream .write)

theorem later_slots (s : State) (x : Slot) (l : List Slot) (p : Slot → Prop) (hs : s.queue.slots = x :: l)
    (h0 : p Slot.empty) (h : ∀ t ∈ l, p t) (j : Nat) (hj : j ≠ 0) : p (s.slot j) := by
  obtain ⟨k, rfl⟩ := Nat.exists_eq_succ_of_ne_zero hj
  have := forall_slot { s with queue := { s.queue with slots := l } } p h0 h k
  simpa [State.slot, slotAt, hs] using this

/-- A session that passes its gap segments, at segment 98 with the mark of segment 100 captured. -/
def passingGaps : State :=
  onTransport (writeStream [{ readySlot 2 false with planned := true }]) fun t =>
    { t with active := some .gap, pos := { wrap := 0, seg := 98, tach := 3 } }

theorem test_witness_ServoMarks_streaming :
    let s := passingGaps
    (s.Settled ∧ (s.transport.pos.seg - 100) * 64 + s.transport.pos.tach < -4 ∧ s.transport.pos.wrap % 2 = 0 ∧
      s.transport.against = false ∧ s.transport.state = .streaming ∧ s.transport.motion = .stream .write ∧
      s.transport.stop = .none ∧ s.transport.startAt = none ∧ s.transport.unhanded = 0 ∧ s.transport.active = some .gap ∧ s.transport.standby = none ∧
      s.transport.pendingStep = none ∧ s.transport.step = s.gov.step ∧ inDataArea s.transport.pos.seg = true ∧
      s.transport.pos.wrap ≤ 63 ∧ s.tape.flights = [] ∧ s.tape.writing = none ∧ s.writer.session = some 3 ∧
      s.writer.state ∈ [WriteState.accepting, .behind] ∧ s.writer.fault = none ∧ deadCount s.head.table < 2 ∧
      (s.queue.slots.any fun x => x.state == .ready || x.state == .inFlight) = true) ∧
    ∀ j, (s.slot j).state = .ready → (s.slot j).planned = true :=
  ⟨by and_intros <;> decide +kernel,
    forall_slot _ (fun t => t.state = .ready → t.planned = true) (by decide +kernel) (by decide +kernel)⟩

theorem test_witness_PlansAndRestarts_offer :
    let s := writeStream [readySlot 2 false, readySlot 3 true]
    (s.Settled ∧ s.transport.state = .streaming ∧ s.transport.motion = .stream .write ∧ s.transport.stop = .none ∧
      s.transport.standby = none ∧ s.transport.pendingStep = none ∧ s.writer.fault = none ∧
      s.writer.state ∈ [WriteState.accepting, .behind] ∧ atEndOfArea s.nextSegment = false ∧ 0 < s.queue.slots.length ∧
      (s.slot 0).state = .ready ∧ (s.slot 0).planned = false ∧ (s.slot 0).stripe = some 2 ∧ (s.slot 0).copies = 0 ∧
      s.writer.openWrap = some s.nextSegment.wrap ∧ s.catalog.reports = []) ∧
    ∀ j m, j ≠ 0 → (s.slot j).state = .ready → (s.slot j).planned = false → (s.slot j).stripe = some m → 2 < m := by
  refine ⟨by and_intros <;> decide +kernel, ?_⟩
  intro j m hj h1 h2 _
  have h := later_slots (writeStream [readySlot 2 false, readySlot 3 true]) _ _
    (fun t => t.state = .ready → t.planned = true) rfl (by decide +kernel) (by decide +kernel) j hj h1
  rw [h2] at h
  cases h

/-- A rebuild scan with nothing accepted, next at segment 102, with this search open. -/
def scanOf (m : Option Miss) : Rebuild :=
  { next := { wrap := 0, seg := 102 }, last := none, carry := none, lastAddr := none, emptyRun := 0, miss := m, later := [], closed := [],
    reach := none, readOn := false, accepted := [], seen := [], outcome := none }

def rebuilding (s : State) (m : Option Miss) : State := onCatalog s fun c => { c with work := .rebuild (scanOf m) }

/-- A governed read stream with an ACQUIRING plan waiting for the next boundary. -/
def acquiringNext : State :=
  let s := onTransport (readingBlocks 1 []) fun t => { t with
    state := .streaming, motion := .stream .read, active := some .pass, standby := some (.acquiring 1), markSeen := true }
  { s with
    reader := { s.reader with nextPlan := some { wrap := 0, seg := 101 } }
    gov := { s.gov with step := 1, governed := true } }

theorem test_witness_PlansAndRestarts :
    (let s := inSession .behind (List.replicate 32 (readySlot 2 false))
     s.Settled ∧ s.transport.state = .stopped ∧ s.transport.known = true ∧ s.sessionOpen = true ∧ s.writer.fault = none ∧
      s.settings.restartThreshold ≤ (s.queue.slots.filter fun x => x.state == .ready).length ∧
      s.writer.lastCopy = none ∧ ordinal s.appendSegment < 4095984) ∧
    (let s := readingBlocks 1 []
     s.Settled ∧ s.transport.state = .stopped ∧ s.transport.known = true ∧ s.reader.nextPlan = some { wrap := 0, seg := 21 } ∧
      s.reader.state ∈ [ReadState.reading, .ahead] ∧ s.reader.halted = false ∧ s.reader.jump = false ∧
      s.reader.nextDrain ≠ none ∧ ordinal { wrap := 0, seg := 21 } < 4095984 ∧ s.reader.atEnd = false ∧ s.reader.met = [] ∧
      s.settings.restartThreshold ≤ (s.queue.slots.filter fun x => x.state == .free).length) ∧
    (let s := rebuilding (moving (holding .rebuilding .idle dataRecord) .stopped .idle) none
     s.transport.state = .stopped ∧ s.transport.known = true ∧ s.catalog.work = .rebuild (scanOf none) ∧ s.reader.state = .idle ∧
      ordinal (scanOf none).next < 4095984 ∧ s.transport.pos = readyPoint (scanOf none).next ∧
      (onTransport s fun t => { t with pos := { wrap := 0, seg := 0, tach := 0 } }).transport.pos ≠ readyPoint (scanOf none).next ∧
      s.settings.restartThreshold ≤ (s.queue.slots.filter fun x => x.state == .free).length) ∧
    (acquiringNext.Settled ∧ acquiringNext.transport.state = .streaming ∧ acquiringNext.transport.motion = .stream .read ∧
      acquiringNext.transport.stop = .none ∧ acquiringNext.transport.standby = some (.acquiring 1) ∧
      acquiringNext.writer.state = .idle) := by
  refine ⟨by and_intros <;> decide +kernel, by and_intros <;> decide +kernel, by and_intros <;> decide +kernel,
    by and_intros <;> decide +kernel⟩

/-- R164's second case: the boundary that makes the ACQUIRING plan active comes before the stop is demanded. The segment passes unread, next to
plan stays, and the stop demanded at that boundary begins at the next. -/
theorem test_acquiring_segment_passes :
    let t := after (exec (.segmentBoundary false { ended := [], check := [] }) acquiringNext)
    t.transport.active = some (.acquiring 1) ∧ t.transport.step = 1 ∧ t.transport.synth = .acquiring ∧
    t.transport.stop = .demanded (some { wrap := 0, seg := 101 }) ∧ t.reader.nextPlan = some { wrap := 0, seg := 101 } ∧
    (after (exec (.segmentBoundary false { ended := [], check := [] }) t)).transport.stop =
      .controlled (some { wrap := 0, seg := 101 }) := by decide +kernel

/-- A read whose location's copy lies 5 segments beyond its extent, which ends at segment 39, is planned on to that copy (R141, log 95). -/
theorem test_location_beyond_extent :
    let s := onCatalog (onTransport (readingBlocks 1 []) fun t => { t with
        state := .streaming, motion := .stream .read, active := some .pass, pos := { wrap := 0, seg := 39, tach := 0 } })
      fun c => { c with location := some { stripe := 1, wrap := 0, seg := 44, atZero := true, headerOnly := false } }
    let s1 := { s with reader := { s.reader with nextDrain := some 1, nextPlan := some { wrap := 0, seg := 40 } } }
    let t := after (exec .planOffer s1)
    t.transport.standby = some (.read 1) ∧ t.reader.nextPlan = some { wrap := 0, seg := 41 } ∧ t.reader.atEnd = false := by
  decide +kernel

/-- A WRITE plan in the standby slot, the synthesizer in this state. -/
def planned (y : SynthState) : State :=
  onTransport (writeStream [readySlot 2 true]) fun t =>
    { t with standby := some (.write 0 2 0), active := some .gap, synth := y, markSeen := true }

theorem test_witness_AWriteCopyBegins : ∀ y ∈ [SynthState.locked, .off],
    let s := planned y
    (s.Settled ∧ s.transport.state = .streaming ∧ s.transport.motion = .stream .write ∧ s.transport.stop = .none ∧
      s.transport.startAt = none ∧ s.transport.unhanded = 0 ∧ s.transport.standby = some (.write 0 2 0) ∧ s.transport.active = some .gap ∧
      s.transport.pendingStep = none ∧ s.transport.step = s.gov.step ∧ s.transport.markSeen = true ∧
      s.transport.missing < 8 ∧ s.tape.flights = [] ∧ s.tape.writing = none ∧ s.writer.session = some 3 ∧
      s.writer.state ∈ [WriteState.accepting, .behind] ∧ s.writer.fault = none ∧ deadCount s.head.table < 2 ∧
      0 < s.queue.slots.length ∧ (s.slot 0).state = .ready ∧ (s.slot 0).stripe = some 2 ∧
      (s.slot 0).account = some (Account.opened 0) ∧ inDataArea s.transport.pos.seg = true ∧
      inDataArea (s.transport.pos.seg + 1) = true ∧ s.transport.pos.wrap ≤ 63 ∧ s.transport.synth = y ∧
      s.transport.lockedStep = s.transport.step) ∧
    ∀ j, (s.slot j).state = .ready → (s.slot j).planned = true := by
  intro y hy
  simp only [List.mem_cons, List.not_mem_nil, or_false] at hy
  obtain rfl | rfl := hy <;>
  exact ⟨by and_intros <;> decide +kernel, forall_slot _ (fun t => t.state = .ready → t.planned = true) (by decide +kernel) (by decide +kernel)⟩

/-- Copy `k` of stripe 2 in flight from segment `seg` of wrap 0, the tape at segment 100, the synthesizer in this state. -/
def inFlight (k : Nat) (seg : Int) (y : SynthState) : State :=
  let s := onTransport (writeStream [{ readySlot 2 false with state := .inFlight, copies := k }]) fun t =>
    { t with active := some .gap, synth := y, markSeen := true }
  { s with tape := { s.tape with flights := [{ addr := ⟨0, seg⟩, slot := some 0, stripe := 2, copy := k, underrun := false }] } }

/-- The header of a copy of stripe 2. -/
def header2 : StripeHeader :=
  { stripe := 2, session := 3, firstPiece := 0, firstOffset := none, copy := 0, used := 3, wrap := 0, seg := 100, isData := true,
    starts := 0, markers := 0 }

/-- The copy whose segment is now ending. -/
def writtenCopy : State :=
  let s := onTransport (inFlight 0 100 .locked) fun t => { t with active := some (.write 0 2 0) }
  { s with tape := { s.tape with gate := true, writing := some header2 } }

theorem test_witness_AWriteCopyBegins_written :
    let s := writtenCopy
    (s.Settled ∧ s.transport.state = .streaming ∧ s.transport.motion = .stream .write ∧ s.transport.stop = .none ∧
      s.transport.startAt = none ∧ s.transport.unhanded = 0 ∧ s.transport.standby = none ∧ s.transport.active = some (.write 0 2 0) ∧
      s.transport.pendingStep = none ∧ s.transport.step = s.gov.step ∧ s.transport.markSeen = true ∧
      s.transport.missing < 8 ∧ s.tape.gate = true ∧ s.tape.writing = some header2 ∧
      s.tape.flights.map Flight.addr = [s.transport.pos.addr] ∧ s.writer.session = some 3 ∧
      s.writer.state ∈ [WriteState.accepting, .behind] ∧ s.writer.fault = none ∧ deadCount s.head.table < 2 ∧
      0 < s.queue.slots.length ∧ (s.slot 0).state = .inFlight ∧ inDataArea s.transport.pos.seg = true ∧
      inDataArea (s.transport.pos.seg + 1) = true ∧ s.transport.pos.wrap ≤ 63) ∧
    ∀ j, (s.slot j).state = .ready → (s.slot j).planned = true :=
  ⟨by and_intros <;> decide +kernel,
    forall_slot _ (fun t => t.state = .ready → t.planned = true) (by decide +kernel) (by decide +kernel)⟩

/-- A track that reads back well: the bytes of a header. -/
def goodTrack : TrackRead := { lost := false, bytes := recordedTrack header2.bytes [], amplitude := 200 }

theorem test_witness_VerdictsAndTheExtentTable_verdict : ∀ k ∈ [0, 2, 3], ∀ y ∈ [SynthState.locked, .off],
    let s := inFlight k 98 y
    (s.Settled ∧ s.transport.state = .streaming ∧ s.transport.motion = .stream .write ∧ s.transport.stop = .none ∧
      s.transport.startAt = none ∧ s.transport.unhanded = 0 ∧ s.transport.standby = none ∧ s.transport.active = some .gap ∧ s.transport.pendingStep = none ∧
      s.transport.step = s.gov.step ∧ s.transport.markSeen = true ∧ s.transport.missing < 8 ∧ s.tape.writing = none ∧
      s.tape.flights = [{ addr := ⟨0, 98⟩, slot := some 0, stripe := 2, copy := k, underrun := false }] ∧
      s.link.outstanding = none ∧ s.writer.session = some 3 ∧ s.writer.state = .behind ∧ s.writer.fault = none ∧
      deadCount s.head.table < 2 ∧ stagesHeld s.queue.slots = true ∧ 0 < s.queue.slots.length ∧
      (s.slot 0).state = .inFlight ∧ (s.slot 0).stripe = some 2 ∧ (s.slot 0).copies = k ∧
      (s.slot 0).account = some (Account.opened 0) ∧ inDataArea s.transport.pos.seg = true ∧
      inDataArea (s.transport.pos.seg + 1) = true ∧ s.transport.pos.wrap ≤ 63 ∧
      ordinal { wrap := 0, seg := 98 } + 3 = ordinal { wrap := 0, seg := s.transport.pos.seg + 1 } ∧
      s.transport.synth = y ∧ s.transport.lockedStep = s.transport.step ∧ s.catalog.reports = []) ∧
    ∀ j, j ≠ 0 → (s.slot j).isWrite = false := by
  intro k hk y hy
  simp only [List.mem_cons, List.not_mem_nil, or_false] at hk hy
  obtain rfl | rfl | rfl := hk <;> obtain rfl | rfl := hy <;>
  exact ⟨by and_intros <;> decide +kernel,
    later_slots _ _ _ (fun t => t.isWrite = false) rfl (by decide +kernel) (by decide +kernel)⟩

/-- A check with every track well read counts no FAIL; one with none read counts 18. -/
theorem test_witness_VerdictsAndTheExtentTable_counts :
    (failMarks (List.replicate 18 goodTrack) false).count true < Settings.default.rewriteThreshold ∧
    Settings.default.rewriteThreshold ≤ (failMarks [] false).count true := by decide +kernel

/-- Two blocks ending in stripe 2; reports of a gap and of two copies after extent0; a table of two extents. -/
theorem test_witness_VerdictsAndTheExtentTable_table :
    (mounted.catalog.confirmed = [] ∧ mounted.catalog.nextJoin = 0 ∧ mounted.catalog.nextJoin ≠ 2) ∧
    ((mounted.catalog.extents.map Extent.blocks).sum = mounted.catalog.blockCount ∧ mounted.catalog.blockCount + 2 ≤ 4294967295) ∧
    (reportAt [{ addr := ⟨0, 40⟩, copy := none }, { addr := ⟨0, 41⟩, copy := some (1, 2) }] { wrap := 0, seg := extent0.last + 2 * 1 }).map
      SegReport.copy = some (some (1, 2)) ∧
    (let es := [extent0, { extent0 with wrap := 1, first := 63999, last := 63900, firstStripe := 2, firstBlock := 3 }]
     (∀ j ∈ [0, 1], ∀ x, es[j]? = some x → x.firstBlock = ((es.take j).map Extent.blocks).sum) ∧
      es.Pairwise (fun x y => x.firstStripe + x.stripes ≤ y.firstStripe) ∧
      (extentOfStripe es 1).map Prod.fst = some 0 ∧ (extentOfStripe es 3).map Prod.fst = some 1) := by
  and_intros <;> decide

/-! ### The read path -/

/-- The header of stripe 0. -/
def header0 : StripeHeader :=
  { stripe := 0, session := 2, firstPiece := 0, firstOffset := some 2, copy := 0, used := 20, wrap := 0, seg := 20,
    isData := true, starts := 1, markers := 0 }

theorem test_witness_DrainExpansionAndWordsOut_start :
    let s := readingBlocks 1 [{ slotIn .decoded with stripe := some 0, payload := List.replicate 20 0, header := some header0 }]
    s.reading = true ∧ s.reader.ending = none ∧ s.drainingSlot = none ∧ s.engine.walk = none ∧ s.reader.nextDrain = some 0 ∧
    (s.findSlot fun t => (t.state == .decoded) && (t.stripe == some 0)) = some 0 ∧ (s.slot 0).header = some header0 ∧
    header0.firstOffset = some 2 ∧ 2 < (s.slot 0).payload.length := by
  and_intros <;> decide

/-- A stripe being drained that begins with block `b`, two bytes stored RAW, with these bytes after it. -/
def draining (b : Nat) (rest : List Byte) : State :=
  let s := onCatalog (readingBlocks 1 [{ slotIn .draining with
    stripe := some 0
    payload := (BlockHeader.make b 2 2 flagRaw (crc32 [5, 6])).bytes ++ [5, 6] ++ rest }])
      fun c => { c with zones := List.replicate 8 Zone.unused }
  { s with
    engine := { s.engine with walk := some { expected := b, phase := .header, current := none, taken := [], kept := none } }
    reader := { s.reader with nextDeliver := b } }

/-- Bytes after the block, none after it, and the extent's end with the block. -/
theorem test_witness_DrainExpansionAndWordsOut_block : ∀ x ∈ [(1, [(0 : Byte)]), (1, []), (2, [0])],
    let s := draining x.1 x.2
    s.Settled ∧ s.wantsBlock = true ∧ s.outflowHeld = true ∧ s.sessionOpen = false ∧ s.port.phase = .idle ∧
    s.drainingSlot = some 0 ∧ (s.slot 0).stripe = some 0 ∧ 0 < s.queue.slots.length ∧ x.1 < 4294967296 ∧
    (s.slot 0).payload = (BlockHeader.make x.1 2 2 flagRaw (crc32 [5, 6])).bytes ++ [5, 6] ++ x.2 ∧
    s.engine.walk = some { expected := x.1, phase := .header, current := none, taken := [], kept := none } ∧
    s.reader.nextDeliver = x.1 ∧ s.extentEnd 0 ≠ some x.1 ∧ (s.extentEnd 0 = some (x.1 + 1) ↔ x.1 = 2) ∧
    overlapped s.catalog.zones x.1 = false := by
  decide +kernel

/-- R114, R116: a match reaching before the block's start stops the walk, and the bytes behind it are not counted as taken. -/
theorem test_failing_token :
    let s := draining 1 []
    let t := after (exec .blockExpansion (s.modifySlot 0 fun x => { x with
      payload := (BlockHeader.make 1 10 6 flagCompressed 0).bytes ++ [0x00, 0x41, 0x80, 0x05, 0x00, 0x42] }))
    t.engine.walk = none ∧ t.engine.meter.taken = s.engine.meter.taken + 20 := by
  decide +kernel

/-- A block of `left` bytes still to send from OUTFLOW. -/
def sending (p : PortPhase) (remaining left : Nat) (out : List Byte) : State :=
  let s := readingBlocks 2 []
  { s with
    port := { Port.idle with phase := p, lengthWord := some left, remaining := remaining, bytesLeft := left }
    engine := { s.engine with outflow := out }
    reader := { s.reader with handed := [{ successor := some (0, false), isMarker := remaining == 0, sent := false }] } }

theorem test_witness_DrainExpansionAndWordsOut_words :
    (dpValid .outward mounted = false ∧ requestDirection (awaiting (.writeBlocks 2) 2) ≠ some .outward ∧
      requestDirection (sending .sendLength 2 5 [1, 2, 3, 4, 5]) = some .outward) ∧
    ((sending .sendLength 2 5 [1, 2, 3, 4, 5]).port.phase = .sendLength ∧ 0 < (sending .sendLength 2 5 [1, 2, 3, 4, 5]).port.remaining) ∧
    ((sending .sendLength 0 0 []).Settled ∧ (sending .sendLength 0 0 []).port.phase = .sendLength ∧
      (sending .sendLength 0 0 []).port.remaining = 0 ∧ (sending .sendLength 0 0 []).reader.ending = none ∧
      (sending .sendLength 0 0 []).reader.searches = [] ∧ (sending .sendLength 0 0 []).reader.met = [] ∧
      (sending .sendLength 0 0 []).reader.handed = [] ++ [{ successor := some (0, false), isMarker := true, sent := false }]) ∧
    (1 < (sending .sendData 2 5 [1, 2, 3, 4, 5]).port.remaining ∧
      (sending .sendData 2 5 [1, 2, 3, 4, 5]).engine.outflow = [] ++ 1 :: 2 :: 3 :: 4 :: [5] ∧
      (sending .sendData 2 5 [1, 2, 3, 4, 5]).port.bytesLeft = 4 + [(5 : Byte)].length) ∧
    ∀ last ∈ [[(5 : Byte)], [5, 6], [5, 6, 7], [5, 6, 7, 8]],
      (sending .sendData 1 last.length ([1, 2, 3, 4] ++ last)).Settled ∧
      (sending .sendData 1 last.length ([1, 2, 3, 4] ++ last)).port.phase = .sendData ∧
      (sending .sendData 1 last.length ([1, 2, 3, 4] ++ last)).port.remaining = 1 ∧
      (sending .sendData 1 last.length ([1, 2, 3, 4] ++ last)).port.bytesLeft = last.length ∧
      (sending .sendData 1 last.length ([1, 2, 3, 4] ++ last)).reader.met = [] := by
  and_intros <;> decide

/-- One block sent, its successor's header met. -/
def counting : State :=
  let s := readingBlocks 2 []
  { s with reader := { s.reader with
      handed := [{ successor := some (0, false), isMarker := false, sent := true }]
      met := [{ stripe := 0, addr := { wrap := 0, seg := 20 }, decodable := true, again := false }] } }

/-- A search of stripe 0 that has expired with `retries` retries behind it. -/
def expired (retries : Nat) : State :=
  let s := moving (readingBlocks 2 []) .streaming (.stream .read)
  { s with reader := { s.reader with searches :=
      [{ stripe := 0, opening := { wrap := 0, seg := 22 }, firstCopy := none, left := 0, retries := retries, copies := [],
         expired := true, armed := true }] } }

theorem test_witness_BlocksCountedAndSearches :
    (counting.link.outstanding = some { op := .readBlocks 2, tag := 7, phase := .working } ∧ counting.Settled ∧
      (counting.reader.met.find? fun m => m.stripe == 0).isSome = true ∧ counting.reader.ending = none ∧
      counting.reader.request = some (.readBlocks 2) ∧
      counting.catalog.current + 1 ≠ counting.catalog.blockCount ∧ counting.reader.delivered + 1 < 2 ∧
      counting.catalog.positionValid = true) ∧
    ((expired 3).link.outstanding = some { op := .readBlocks 2, tag := 7, phase := .working } ∧
      ((expired 3).reader.searches.find? fun e => e.expired && decide (e.retries < (expired 3).settings.retryLimit)).isSome = true ∧
      (∀ y ∈ (expired 3).reader.searches, y.retries < (expired 3).settings.retryLimit) ∧ (expired 3).reader.ending = none ∧
      (expired 3).reader.retrying = none ∧ extentOfStripe (expired 3).catalog.extents 0 = some (0, extent0) ∧
      (expired 3).transport.state = .streaming ∧ (expired 3).transport.stop = .none) := by
  and_intros <;> decide

/-! ### The rebuild -/

def scanAt (s : State) : Option Rebuild := match s.catalog.work with | .rebuild r => some r | _ => none

/-- A copy of the stripe searched for, whose number another session's stripe holds, is skipped (R98). -/
theorem test_rebuild_skips_held_number :
    let s := rebuilding (withSlots (moving (holding .rebuilding .idle dataRecord) .streaming (.stream .rebuild))
        [{ slotIn .decoded with stripe := some 0, header := some { header0 with session := 5 } }, slotIn .loading])
      (some (Miss.opened 0 header0.session { wrap := 0, seg := 20 }))
    let t := s.rebuildSegment (scanOf (some (Miss.opened 0 header0.session { wrap := 0, seg := 20 }))) 1 { wrap := 0, seg := 21 }
      { fails := [], levels := [], outcome := .clean, header := some header0, payload := [] }
    (t.slot 0).state = .decoded ∧ t.catalog.extents = [] ∧
    (scanAt t).map (fun r => (r.last, r.miss.isSome)) = some (none, true) := by decide +kernel

/-- With no slot FREE and a stripe wanted next, a rebuild takes the slot of the highest stripe held, which waits to be read again (R99,
R167); with none wanted it stops. -/
theorem test_rebuild_reclaims :
    let full (m : Option Miss) : State := withSlots
      (rebuilding (onTransport (moving (holding .rebuilding .idle dataRecord) .streaming (.stream .rebuild)) fun t =>
        { t with pos := { wrap := 0, seg := 101, tach := 0 } }) m)
      (List.replicate 128 { slotIn .decoded with stripe := some 4, header := some { header0 with stripe := 4 } })
    let t := after (exec .planOffer (full (some (Miss.opened 0 0 { wrap := 0, seg := 20 }))))
    t.transport.standby = some (.read 0) ∧ (t.slot 0).state = .loading ∧
    (scanAt t).map (fun r => r.later.map Miss.reclaimed) = some [true] ∧
    (after (exec .planOffer (full none))).transport.stop = .demanded (some { wrap := 0, seg := 102 }) := by decide +kernel

/-! ### Formats -/

theorem test_witness_ExpansionInvertsCompression :
    (4294967295 : Nat) < 4294967296 ∧ 1 ≤ (List.replicate 10 (0x41 : Byte)).length ∧
    (List.replicate 10 (0x41 : Byte)).length ≤ 262144 := by decide

/-- A track as written passes its own check (R6, R7). -/
theorem written_track_passes (h body : List Byte) (a : Byte) (n : 28 ≤ h.length) :
    trackFails { lost := false, bytes := recordedTrack h body, amplitude := a } = false := by
  have l : (beBytes 4 (crc32 (h ++ body)).toNat).length = 4 := by simp [beBytes]
  have e : (recordedTrack h body).length = (h ++ body).length + 4 := by simp [recordedTrack, beBytes, Nat.add_assoc]
  have t : (recordedTrack h body).length - 4 = (h ++ body).length := by omega
  have c : (crc32 (h ++ body)).toNat < 4294967296 := (crc32 (h ++ body)).isLt
  have f : beField (recordedTrack h body) (h ++ body).length 4 = (crc32 (h ++ body)).toNat := by
    simp only [beField, recordedTrack, List.drop_left, List.take_of_length_le (Nat.le_of_eq l)]
    generalize (crc32 (h ++ body)).toNat = x at c
    simp [beBytes, beNat]
    omega
  have k : (recordedTrack h body).take (h ++ body).length = h ++ body := by
    rw [recordedTrack, List.take_left]
  have s : ¬ (recordedTrack h body).length < 32 := by rw [e, List.length_append]; omega
  simp only [trackFails, t, f, k]
  simp [s]

def twenty : List Byte := List.replicate 20 0x55

/-- A stripe's tracks read back, the first k of them lost. -/
def readBack (k : Nat) : List TrackRead :=
  (stripeTracks header0 twenty).mapIdx fun i b => { lost := decide (i < k), bytes := b, amplitude := 9 }

theorem readBack_fails (k : Nat) (hk : k ≤ 18) : ((readBack k).filter trackFails).length = k := by
  have l : (stripeTracks header0 twenty).length = 18 := by simp [stripeTracks]
  have e : (readBack k).map trackFails = (List.range 18).map fun i => decide (i < k) := by
    apply List.ext_getElem
    · simp [readBack, l]
    · intro i h1 h2
      simp only [readBack, List.getElem_map, List.getElem_mapIdx, List.getElem_range]
      by_cases q : i < k
      · simp [trackFails, q]
      · have : ∃ b, (stripeTracks header0 twenty)[i]'(by simpa [readBack] using h1) = recordedTrack header0.bytes b := by
          simp only [stripeTracks, List.getElem_map]; exact ⟨_, rfl⟩
        obtain ⟨b, hb⟩ := this
        simp only [q, hb, decide_false]
        exact written_track_passes _ _ _ (by decide)
  have f : (readBack k).countP trackFails = k := by
    have : (readBack k).countP trackFails = ((readBack k).map trackFails).countP id := by rw [List.countP_map]; rfl
    rw [this, e]
    have : ∀ j ≤ 18, ((List.range 18).map fun i => decide (i < j)).countP id = j := by decide
    exact this k hk
  rwa [List.countP_eq_length_filter] at f

theorem test_witness_LostTracksAreRecovered :
    (header0.used = twenty.length ∧ twenty.length ≤ 262144 ∧ header0.stripe < 4294967296 ∧ header0.session < 4294967296 ∧
      header0.firstPiece < 4294967296 ∧ (∀ o, header0.firstOffset = some o → o < 0xFFFFFF) ∧ header0.copy < 256 ∧
      header0.wrap < 64 ∧ 0 ≤ header0.seg ∧ header0.seg < 64000 ∧ header0.starts < 65536 ∧ header0.markers < 65536) ∧
    kindFits { wrap := 0, seg := 20 } header0 = true ∧
    ∀ k ∈ [0, 2, 3, 17], (readBack k).length = 18 ∧ ((readBack k).filter trackFails).length = k ∧
      ∀ (i : Nat) (t : TrackRead), (readBack k)[i]? = some t → trackFails t = false →
        (stripeTracks header0 twenty)[i]? = some t.bytes := by
  have offset : ∀ o, header0.firstOffset = some o → o < 0xFFFFFF := by
    intro o h
    cases h
    decide
  refine ⟨?_, by decide, ?_⟩
  · and_intros
    all_goals first | exact offset | decide
  · intro k hk
    refine ⟨by simp [readBack, stripeTracks], readBack_fails k ?_, ?_⟩
    · simp only [List.mem_cons, List.not_mem_nil, or_false] at hk
      omega
    · intro i t h _
      simp only [readBack, List.getElem?_mapIdx, Option.map_eq_some_iff] at h
      obtain ⟨b, hb, rfl⟩ := h
      exact hb

end Sys2Proof.Tests
end

section
/-! SUPPORT. The rules about the Medium Controller's and the Transport Controller's operations that the statements about the cartridge,
the threader, the cartridge memory and the rewind rest on: what each writes, and what it leaves for the settling at a step's end. -/

namespace Sys2Proof.Machine

/-! ### What the settling needs to know of a step -/

/-- Only a READ BLOCKS at its own work holds the OUTFLOW stage. -/
theorem State.reading_eq_false (s : State) (h : ∀ n, s.op ≠ some (.readBlocks n)) : s.reading = false := by
  unfold State.reading
  split
  · next n _ q _ => exact absurd q (h _)
  · next n _ q _ => exact absurd q (h _)
  · rfl

theorem State.reading_congr {s t : State} (h : t.link.outstanding = s.link.outstanding) : t.reading = s.reading := by
  simp only [State.reading, State.op, State.opPhase, h]

section
variable {s t : State}

theorem State.Settled.no_unthread_waits (h : s.Settled) : ¬(s.medium.state = .unthreading ∧ s.medium.phase = .idle) := by
  obtain ⟨-, unthread, -, -, -, -⟩ := h
  exact unthread

theorem State.Settled.no_operation_flushed (h : s.Settled) (hlink : t.link.outstanding = s.link.outstanding) :
    t.opPhase ≠ some .flushed := by
  obtain ⟨-, -, -, phase, -, -⟩ := h
  rwa [State.opPhase, hlink]

/-- After a step from a settled state that leaves the scan and the read-ahead alone, begins no unthread behind a stop and
leaves no operation between its phases, only stage slots can be owed. -/
theorem State.Settled.settle_eq_stages (h : s.Settled) (hscan : t.head.scan = s.head.scan) (hreader : t.reader = s.reader)
    (hmedium : ¬(t.medium.state = .unthreading ∧ t.medium.phase = .idle)) (hphase : t.opPhase ≠ some .flushed) :
    t.settle = t.settleStages := by
  obtain ⟨scan, -, reader, -, -, -⟩ := h
  exact State.settle_eq_stages t (hscan ▸ scan) hmedium (hreader ▸ reader) hphase

/-- Such a step that leaves the slots and the session alone too, and begins no READ BLOCKS, owes nothing. -/
theorem State.Settled.settle_eq_self (h : s.Settled) (hscan : t.head.scan = s.head.scan) (hreader : t.reader = s.reader)
    (hmedium : ¬(t.medium.state = .unthreading ∧ t.medium.phase = .idle)) (hphase : t.opPhase ≠ some .flushed)
    (hwriter : t.writer = s.writer) (hqueue : t.queue = s.queue) (hreading : t.reading = true → s.reading = true) :
    t.settle = t := by
  rw [h.settle_eq_stages hscan hreader hmedium hphase]
  obtain ⟨-, -, -, -, writes, reads⟩ := h
  have stage (st : SlotState) : t.stageSettled st ↔ s.stageSettled st := by
    simp only [State.stageSettled, State.findSlot, State.lowestFree, hqueue]
  apply State.settleStages_eq
  · intro q
    simp only [State.sessionOpen, hwriter] at q
    exact ⟨(stage _).2 (writes q).1, (stage _).2 (writes q).2⟩
  · rintro ⟨r, e⟩
    exact (stage _).2 (reads ⟨hreading r, hreader ▸ e⟩)

/-- Such a step that leaves the outstanding operation alone begins no READ BLOCKS and moves no operation between its phases. -/
theorem State.Settled.settle_eq_self_of_outstanding (h : s.Settled) (hlink : t.link.outstanding = s.link.outstanding)
    (hscan : t.head.scan = s.head.scan) (hreader : t.reader = s.reader)
    (hmedium : ¬(t.medium.state = .unthreading ∧ t.medium.phase = .idle))
    (hwriter : t.writer = s.writer) (hqueue : t.queue = s.queue) : t.settle = t :=
  h.settle_eq_self hscan hreader hmedium (h.no_operation_flushed hlink) hwriter hqueue fun r =>
    State.reading_congr hlink ▸ r
end

/-! ### The transport in place: THREAD_MOTION, PARKED, rest, the synchronised step -/

theorem State.emptyPlans_queue (s : State) (ha : s.transport.active = none) (hs : s.transport.standby = none) :
    s.emptyPlans.queue = s.queue := by
  simp [State.emptyPlans, State.emptyStandby, State.dropPlan, ha, hs]

/-- THREAD_MOTION holds threading tension with no plan and the synthesizer OFF, position known cleared (R67, R68, R70, R85). -/
theorem State.threadMotion_fields (s : State) :
    s.threadMotion.transport.state = .threadMotion ∧ s.threadMotion.transport.tension = .threading ∧
    s.threadMotion.transport.synth = .off ∧ s.threadMotion.transport.known = false ∧
    s.threadMotion.transport.active = none ∧ s.threadMotion.transport.standby = none ∧
    s.threadMotion.tape.gate = false := by
  refine ⟨rfl, rfl, rfl, rfl, rfl, rfl, ?_⟩
  simp [State.threadMotion]

theorem State.threadMotion_queue (s : State) (ha : s.transport.active = none) (hs : s.transport.standby = none) :
    s.threadMotion.queue = s.queue := by
  simp [State.threadMotion, State.emptyPlans_queue, ha, hs]

/-- PARKED releases the tension, and no duty is driven (R67, R68). -/
theorem State.park_fields (s : State) :
    s.park.transport.state = .parked ∧ s.park.transport.tension = .none ∧
    s.park.transport.dutyS = 0 ∧ s.park.transport.dutyT = 0 := ⟨rfl, rfl, rfl, rfl⟩

/-- With no request waiting the tape stays at rest (R79, R80, R83). -/
theorem State.comeToRest_fields (s : State) (h : s.transport.deferred = none) :
    s.comeToRest.transport.state = .stopped ∧ s.comeToRest.transport.motion = .idle ∧ s.comeToRest.transport.stop = .none ∧
    s.comeToRest.transport.known = s.transport.known ∧ s.comeToRest.transport.synth = s.transport.synth := by
  have h' : (s.enterTransport .stopped).transport.deferred = none := h
  unfold State.comeToRest
  dsimp only
  split
  · next req q => cases q.symm.trans h'
  · exact ⟨rfl, rfl, rfl, rfl, rfl⟩

/-- The Governor's step is handed through the pending step alone (R162). -/
theorem State.syncPending_transport (s : State) :
    ∃ p, s.syncPending.transport = { s.transport with pendingStep := p } := by
  unfold State.syncPending
  repeat' split
  all_goals exact ⟨_, rfl⟩

/-! ### Threading, unthreading and the ends of a LOAD -/

@[simp] theorem State.driveUnthread_medium (s : State) :
    s.driveUnthread.medium =
      { s.medium with phase := if s.medium.leader then MediumPhase.windingBack else MediumPhase.returning } := by
  simp [State.driveUnthread]

/-- An unthread from a tape that does not move begins at once, in THREAD_MOTION at threading tension (R62, R67). -/
theorem State.beginUnthread_at_rest (s : State) (a : AfterUnthread) (h : s.transport.state.moving = false) :
    (s.beginUnthread a).medium =
      { s.medium with
        state := .unthreading, phase := (if s.medium.leader then .windingBack else .returning), after := some a } ∧
    (s.beginUnthread a).transport.state = .threadMotion ∧ (s.beginUnthread a).transport.tension = .threading ∧
    (s.beginUnthread a).att = s.att := by
  have drives : s.beginUnthread a =
      { (s.enterMedium .unthreading).setMediumPhase .idle with
        medium := { ((s.enterMedium .unthreading).setMediumPhase .idle).medium with after := some a } }.driveUnthread := by
    simp [State.beginUnthread, h]
  rw [drives]
  exact ⟨by simp, rfl, rfl, by simp [MediumState.announced]⟩

/-- A LOAD ends with its status and payload, and no operation is outstanding (R53, R54). -/
theorem State.endMedium_load (s : State) (code : Code) {w : Byte} {p : OpPhase}
    (h : s.link.outstanding = some { op := .load, tag := w, phase := p }) :
    s.endMedium code = { s with link := { s.link with
      outstanding := none, queue := s.link.queue ++ [{ tag := w, code := code, payload := s.loadPayload code }] } } := by
  simp [State.endMedium, State.op, State.endOp, State.respond, h]

/-- The leader is home with the cartridge in its seat: PARKED and SEATED (R62). -/
def State.home (s : State) : State :=
  let s1 := s.park.enterMedium .seated
  { s1 with medium := { s.medium with state := .seated, phase := .idle, leader := false, after := none } }

theorem State.home_fields (s : State) :
    s.home.medium = { s.medium with state := .seated, phase := .idle, leader := false, after := none } ∧
    s.home.transport = s.park.transport ∧ s.home.link = s.link ∧ s.home.att = s.att.raise .mediumChange ∧
    s.home.settings = s.settings ∧ s.home.writer = s.writer ∧ s.home.reader = s.reader ∧ s.home.catalog = s.catalog ∧
    s.home.head = s.head := by
  simp [State.home, MediumState.announced]

/-- After the unthread an eject follows where one is to (R62). -/
theorem State.unthreaded_ejects (s : State) {c : Option Code} {r : Bool} (hp : s.medium.present = true)
    (ha : s.medium.after = some { eject := true, code := c, retry := r }) : s.unthreaded = s.home.beginEject c := by
  simp [State.unthreaded, State.home, ha, hp, State.beginEject, State.setMediumPhase]

/-- After the unthread the operation ends where no eject is to follow (R62). -/
theorem State.unthreaded_ends (s : State) {c : Code} {r : Bool} (hp : s.medium.present = true)
    (ha : s.medium.after = some { eject := false, code := some c, retry := r }) :
    s.unthreaded = { s.home.endMedium c with medium := { s.home.medium with unmount := none } } := by
  simp [State.unthreaded, State.home, ha, hp, State.setMediumPhase]

section
variable {s : State}

theorem exec_leaderCapture {k : Nat} (h : s.medium.phase = .capturing k) :
    exec .leaderCapture s = .next { s with medium := { s.medium with leader := true, phase := .winding } } := by
  simp only [exec, execLeaderCapture, h]

theorem exec_captureTimeout {k : Nat} (h : s.medium.phase = .capturing k) :
    exec .captureTimeout s = .next (if k < 3 then s.setMediumPhase (.capturing (k + 1))
      else s.beginUnthread { eject := false, code := some .threadFault, retry := false }) := by
  simp only [exec, execCaptureTimeout, h]

theorem exec_windBackDone (h : s.medium.phase = .windingBack) : exec .windBackDone s = .next (s.setMediumPhase .returning) := by
  simp only [exec, execWindBackDone, if_pos h]

theorem exec_unthreadDone (h : s.medium.phase = .returning) : exec .unthreadDone s = .next s.unthreaded.settle := by
  simp only [exec, execUnthreadDone, if_pos h]

theorem exec_unthreadTimeout (h : s.medium.phase = .returning) : exec .unthreadTimeout s = .next s.stuck.settle := by
  simp only [exec, execUnthreadTimeout, if_pos h]

end

/-! ### Taking LOAD and UNLOAD in SEATED -/

theorem exec_load_of_room (s : State) (tag : Byte) (h : s.hasRoom = true) :
    exec (.load tag) s = .next (s.gate tag .load (State.takeLoad tag)).settle :=
  congrArg _ (State.take_of_room s _ h)

theorem exec_unload_of_room (s : State) (tag : Byte) (h : s.hasRoom = true) :
    exec (.unload tag) s = .next (s.gate tag .unload (State.takeUnload tag)).settle :=
  congrArg _ (State.take_of_room s _ h)

/-- With no operation outstanding and no record being read, SEATED passes an operation on to its own checks (R192). -/
theorem State.gate_seated (s : State) (tag : Byte) (o : Op) (own : State → State) (ho : s.link.outstanding = none)
    (hm : s.medium.state = .seated) (hr : s.medium.reading = false) : s.gate tag o own = own s := by
  simp [State.gate, ho, hm, hr]

theorem State.takeLoad_threads (s : State) (tag : Byte) {r : CmRecord} (hm : s.medium.state = .seated)
    (hi : s.medium.identity.bind Identity.record = some r) (h : ¬(r.kind = .cleaning ∧ r.passes = 0)) :
    s.takeLoad tag = (s.accept tag .load .working).beginThreading := by
  simp [State.takeLoad, hm, hi, h]

theorem State.takeLoad_ejects (s : State) (tag : Byte) {r : CmRecord} (hm : s.medium.state = .seated)
    (hi : s.medium.identity.bind Identity.record = some r) (h : r.kind = .cleaning ∧ r.passes = 0) :
    s.takeLoad tag = (s.accept tag .load .working).beginEject (some .cleanerExpired) := by
  simp [State.takeLoad, hm, hi, h]

theorem State.takeUnload_ejects (s : State) (tag : Byte) (hm : s.medium.state = .seated) :
    s.takeUnload tag = (s.accept tag .unload .working).beginEject (some .ok) := by
  simp [State.takeUnload, hm]

theorem State.beginThreading_medium (s : State) :
    s.beginThreading.medium = { s.medium with state := .threading, phase := .capturing 1 } := by
  simp [State.beginThreading]

/-- Threading begins in THREAD_MOTION with no slips counted and no plan (R53, R54). -/
theorem State.beginThreading_transport (s : State) :
    s.beginThreading.transport.state = .threadMotion ∧ s.beginThreading.transport.tension = .threading ∧
    s.beginThreading.transport.synth = .off ∧ s.beginThreading.transport.known = false ∧
    s.beginThreading.transport.slips = 0 ∧ s.beginThreading.transport.active = none ∧
    s.beginThreading.transport.standby = none ∧ s.beginThreading.tape.gate = false := by
  obtain ⟨state, tension, synth, known, active, standby, gate⟩ :=
    ((s.enterMedium .threading).setMediumPhase (.capturing 1)).threadMotion_fields
  exact ⟨state, tension, synth, known, rfl, active, standby, gate⟩

theorem State.beginThreading_att (s : State) : s.beginThreading.att = s.att := by
  simp [State.beginThreading, MediumState.announced]

theorem State.beginThreading_queue (s : State) (ha : s.transport.active = none) (hs : s.transport.standby = none) :
    s.beginThreading.queue = s.queue := by
  simp [State.beginThreading, State.threadMotion_queue, ha, hs]

/-- An eject that a LOAD or an UNLOAD begins in SEATED leaves nothing over (R49, R53, R58). -/
theorem State.Settled.settle_beginEject {s : State} (hs : s.Settled) (hm : s.medium.state = .seated) (tag : Byte) {o : Op}
    (ho : ∀ n, o ≠ .readBlocks n) (code : Option Code) :
    ((s.accept tag o .working).beginEject code).settle = (s.accept tag o .working).beginEject code := by
  refine hs.settle_eq_self rfl rfl ?_ ?_ rfl rfl ?_
  · rintro ⟨q, -⟩
    cases hm.symm.trans q
  · intro q
    cases q
  · have op : ((s.accept tag o .working).beginEject code).op = some o := rfl
    simp [State.reading_eq_false _ fun n => op ▸ fun q => ho n (Option.some.inj q)]

/-! ### The end of a cartridge memory write -/

/-- With nothing waiting no further cartridge memory write begins (R52). -/
theorem State.nextCm_of_nothing_waiting (fuel : Nat) (s : State) (hw : s.medium.waiting = []) (hz : s.medium.heldZones = []) :
    State.nextCm fuel s = s := by
  cases fuel with
  | zero => rfl
  | succ n =>
    rw [State.nextCm]
    cases q : s.medium.write with
    | some _ => rfl
    | none => simp only [hw, hz]

section
variable {s : State} {w : CmWrite} {i : Identity} {readBack : Option (List Byte)}

/-- The read-back agrees with a write: it is a record, and the one written (R50). -/
abbrev CmWrite.Agrees (w : CmWrite) (readBack : Option (List Byte)) : Prop :=
  readBack = some w.record.bytes ∧ CmRecord.parse readBack ≠ none

theorem State.cmReadBack_writes_again (hwrite : s.medium.write = some w) (hd : ¬w.Agrees readBack) (h : w.second = false) :
    s.cmReadBack readBack = { s with medium := { s.medium with write := some { w with second := true } } } := by
  simp only [State.cmReadBack, hwrite, if_neg hd, h]
  rfl

theorem State.cmReadBack_fails (hwrite : s.medium.write = some w) (hi : s.medium.identity = some i)
    (hd : ¬w.Agrees readBack) (h : w.second = true) :
    s.cmReadBack readBack = State.nextCm (s.medium.waiting.length + s.medium.heldZones.length + 1)
      ({ s with medium := { s.medium with write := none, identity := some { i with memoryFault := true } } }.cmEnded
        w.purpose false) := by
  simp only [State.cmReadBack, hwrite, if_neg hd, h, hi]
  rfl

theorem State.cmReadBack_stores (hwrite : s.medium.write = some w) (hi : s.medium.identity = some i)
    (ha : w.Agrees readBack) :
    s.cmReadBack readBack = State.nextCm (s.medium.waiting.length + s.medium.heldZones.length + 1)
      ({ s with medium := { s.medium with write := none, identity := some { i with record := some w.record } } }.cmEnded
        w.purpose true) := by
  simp only [State.cmReadBack, hwrite, if_pos ha, hi]
  rfl
end

theorem State.openMount_att (s : State) (serial : List Byte) (h : s.head.pc < 400) : (s.openMount serial).att = s.att := by
  have pc : ¬400 ≤ s.head.pc := by omega
  simp [State.openMount, pc]

/-- With PC below 400 the mount opens without a commit (R182). -/
theorem State.openMount_head (s : State) (serial : List Byte) (h : s.head.pc < 400) :
    (s.openMount serial).head.mount.isOpen = true ∧ (s.openMount serial).head.mount.serial = serial ∧
    (s.openMount serial).head.mountSeq = min 4294967295 (s.head.mountSeq + 1) ∧
    (s.openMount serial).head.ci = s.head.ci ∧ (s.openMount serial).head.table = s.head.table ∧
    (s.openMount serial).head.scan = s.head.scan := by
  have pc : ¬400 ≤ s.head.pc := by omega
  simp [State.openMount, pc, satAdd, max32]

/-- A LOAD that mounts a data cartridge is answered with the identity copy (R56). -/
theorem State.loadPayload_of_mount (s : State) {code : Code} {i : Identity} {r : CmRecord} (hi : s.medium.identity = some i)
    (hr : i.record = some r) (hk : r.kind = .data) (hc : code ∈ [Code.ok, .rebuilt, .rebuiltShort]) :
    s.loadPayload code = .loaded (some i) := by
  simp only [List.mem_cons, List.not_mem_nil, or_false] at hc
  rcases hc with rfl | rfl | rfl
  · simp [State.loadPayload, hi, hr, hk]
  · simp [State.loadPayload, hi]
  · simp [State.loadPayload, hi]

/-- MOUNTED with Current Block at the beginning, before the mount opens (R56). -/
def State.mountedAtBeginning (s : State) : State :=
  let s1 := s.enterMedium .mounted
  { s1 with medium := { s.medium with state := .mounted, phase := .idle }, catalog := s.catalog.toBeginning }

theorem State.mountedAtBeginning_fields (s : State) :
    s.mountedAtBeginning.medium = { s.medium with state := .mounted, phase := .idle } ∧
    s.mountedAtBeginning.att = s.att.raise .mediumChange ∧
    s.mountedAtBeginning.catalog = s.catalog.toBeginning ∧ s.mountedAtBeginning.link = s.link ∧
    s.mountedAtBeginning.head = s.head ∧ s.mountedAtBeginning.transport = s.transport ∧
    s.mountedAtBeginning.settings = s.settings ∧ s.mountedAtBeginning.writer = s.writer ∧
    s.mountedAtBeginning.reader = s.reader := by
  simp [State.mountedAtBeginning, MediumState.announced]

theorem State.mountDone_mounts (s : State) {i : Identity} {r : CmRecord} (hp : s.medium.phase = .mountWrite)
    (hi : s.medium.identity = some i) (hr : i.record = some r) :
    s.mountDone true = (s.mountedAtBeginning.openMount r.serial).endMedium s.medium.source := by
  simp [State.mountDone, State.mountedAtBeginning, State.setMediumPhase, hp, hi, hr]

/-! ### Re-tension and the rewind by reel count -/

/-- Locate motion at working tension, the relax timer stopped (R68, R79, R84). -/
theorem State.startTravel_fields (s : State) (req : MotionReq) :
    (s.startTravel req).transport.state = .locating ∧ (s.startTravel req).transport.tension = .working ∧
    (s.startTravel req).transport.motion = .travel req ∧ (s.startTravel req).transport.relaxTimer = false :=
  ⟨rfl, rfl, rfl, rfl⟩

/-- With the position known a LOCATE's motion is locate motion at once (R79). -/
theorem State.beginMotion_locateEnd (s : State) (a : SegAddr) (hk : s.transport.known = true) :
    s.beginMotion (.locateEnd a) = s.startTravel (.locateEnd a) := by
  simp [State.beginMotion, State.wants, State.beginKnown, hk]

/-- The counter as a rewind by reel count sets it (R77). -/
def State.atReelStart (s : State) : State :=
  { s with transport := { s.transport with pos := { wrap := 0, seg := -32, tach := 0 } } }

@[simp] theorem State.atReelStart_frame (s : State) :
    s.atReelStart.link = s.link ∧ s.atReelStart.att = s.att ∧ s.atReelStart.settings = s.settings ∧
    s.atReelStart.medium = s.medium ∧ s.atReelStart.tape = s.tape ∧ s.atReelStart.queue = s.queue ∧
    s.atReelStart.writer = s.writer ∧ s.atReelStart.reader = s.reader ∧ s.atReelStart.catalog = s.catalog ∧
    s.atReelStart.head = s.head ∧ s.atReelStart.transport.pos = { wrap := 0, seg := -32, tach := 0 } := by
  and_intros <;> rfl

/-- The re-acquisition streams forward at step 0 (R77). -/
def State.beginReacquisition (s : State) (req : MotionReq) : State :=
  let s1 := s.enterTransport .streaming
  { s1 with transport := { s1.transport with
      motion := .reacquire req, stop := .none, against := false, active := some .pass, step := 0, runUp := 0,
      startAt := none, unhanded := 0 } }

/-- With no request waiting, the unmount's rewind ends in the unthread with the UNLOAD's status (R61). -/
theorem State.rewound_fields (s : State) {u : Unmount} (hd : s.transport.deferred = none) (hu : s.medium.unmount = some u) :
    s.rewound.transport.state = .threadMotion ∧
    s.rewound.medium = { s.medium with
      state := .unthreading, phase := (if s.medium.leader then .windingBack else .returning)
      after := some { eject := true, code := some u.status, retry := false } } := by
  have atRest : s.comeToRest.transport.state.moving = false := by
    obtain ⟨stopped, -, -, -, -⟩ := s.comeToRest_fields hd
    rw [stopped]
    rfl
  obtain ⟨medium, state, -, -⟩ := s.comeToRest.beginUnthread_at_rest
    { eject := true, code := some u.status, retry := false } atRest
  simp only [State.comeToRest_frame, hu] at medium
  simp only [State.rewound, hu, Option.map_some, Option.getD_some]
  exact ⟨state, medium⟩

section
variable {s : State} {req : MotionReq}

theorem exec_retensionComplete (hstate : s.transport.state = .relaxed)
    (htension : s.transport.tension = .working) (hmotion : s.transport.motion = .retension req) :
    exec .retensionComplete s = .next
      ({ s.enterTransport .stopped with
        transport := { (s.enterTransport .stopped).transport with motion := .idle } }.beginMotion req).settle := by
  simp only [exec, execRetensionComplete, hstate, htension, hmotion]
  rfl

theorem exec_relaxTimeout (hstate : s.transport.state = .stopped) (htimer : s.transport.relaxTimer = true)
    (h : s.settings.relaxTimeout ≠ 0) : exec .relaxTimeout s = .next (s.enterTransport .relaxed) := by
  have expires : s.transport.state = .stopped ∧ s.transport.relaxTimer = true ∧ s.settings.relaxTimeout ≠ 0 :=
    ⟨hstate, htimer, h⟩
  simp only [exec, execRelaxTimeout, if_pos expires]

theorem exec_relaxTimeout_of_zero (h : s.settings.relaxTimeout = 0) : exec .relaxTimeout s = .next s := by
  have never : ¬(s.transport.state = .stopped ∧ s.transport.relaxTimer = true ∧ s.settings.relaxTimeout ≠ 0) :=
    fun ⟨_, _, q⟩ => q h
  simp only [exec, execRelaxTimeout, if_neg never]

/-- The rewind by reel count toward anything but the unthread goes on to the re-acquisition (R77). -/
theorem exec_reelCountRewindDone_reacquires (hmotion : s.transport.motion = .rewind req) (hreq : req ≠ .reelRewind)
    (hstop : s.transport.stop = .none) :
    exec .reelCountRewindDone s = .next (s.atReelStart.beginReacquisition req).syncPending := by
  simp only [exec, execReelCountRewindDone, hmotion, hstop]
  cases req with
  | reelRewind => exact absurd rfl hreq
  | _ => rfl

/-- With a controlled stop demanded it ends at rest (assumption 63). -/
theorem exec_reelCountRewindDone_rests {r : Option SegAddr} (hmotion : s.transport.motion = .rewind req)
    (hreq : req ≠ .reelRewind) (hstop : s.transport.stop = .demanded r) :
    exec .reelCountRewindDone s = .next s.atReelStart.comeToRest.settle := by
  simp only [exec, execReelCountRewindDone, hmotion, hstop]
  cases req with
  | reelRewind => exact absurd rfl hreq
  | _ => rfl

/-- The unmount's rewind by reel count ends at the reel (R61). -/
theorem exec_reelCountRewindDone_unmounts (hmotion : s.transport.motion = .rewind .reelRewind)
    (hstop : s.transport.stop = .none) : exec .reelCountRewindDone s = .next s.atReelStart.rewound.settle := by
  simp only [exec, execReelCountRewindDone, hmotion, hstop]
  rfl
end

end Sys2Proof.Machine
end

section
/-! PROOFS. Power-on, LOAD and UNLOAD in SEATED, and the threader's events, settled. -/

namespace Sys2Proof.Machine

/-- Settles O8: each of the three power-on states is computed. -/
theorem powerOnReset : Obligations.PowerOnReset := by
  intro s tab leader
  refine ⟨rfl, rfl, _, rfl, ?_⟩
  and_intros <;> rfl

/-! ### LOAD and UNLOAD in SEATED -/

/-- Settles O24. A stage slot that a session still owes may be taken when a plan's slot is freed, so the queue alone is left as it
was only when no plan stood. -/
theorem loadThreads : Obligations.LoadThreads := by
  intro tag s r hroom hs ho hm hr hi hkind
  let t := (s.accept tag .load .working).beginThreading
  have mayThread : ¬(r.kind = .cleaning ∧ r.passes = 0) := by
    rintro ⟨k, p⟩
    rcases hkind with d | q
    · cases k.symm.trans d
    · omega
  have taken : exec (.load tag) s = .next t.settle := by
    rw [exec_load_of_room s tag hroom, State.gate_seated s tag _ _ ho hm hr, State.takeLoad_threads s tag hm hi mayThread]
  have link : t.link = { s.link with outstanding := some { op := .load, tag := tag, phase := .working } } := by
    simp [t, State.accept]
  have medium : t.medium = { s.medium with state := .threading, phase := .capturing 1 } := by
    simp [t, State.beginThreading_medium]
  have noUnthread : ¬(t.medium.state = .unthreading ∧ t.medium.phase = .idle) := by simp [medium]
  have working : t.opPhase ≠ some .flushed := by simp [State.opPhase, link]
  have stages : t.settle = t.settleStages := hs.settle_eq_stages (by simp [t]) (by simp [t]) noUnthread working
  have queue (ha : s.transport.active = none) (hb : s.transport.standby = none) : t.settleStages.queue = s.queue := by
    have same : t.queue = s.queue := State.beginThreading_queue (s.accept tag .load .working) ha hb
    have settled : t.settle = t := hs.settle_eq_self (by simp [t]) (by simp [t]) noUnthread working (by simp [t]) same
      (by simp [State.reading_eq_false t, State.op, link])
    rw [← stages, settled, same]
  obtain ⟨state, tension, synth, known, slips, active, standby, gate⟩ :=
    State.beginThreading_transport (s.accept tag .load .working)
  refine ⟨t.settle, taken, ?_⟩
  rw [stages]
  simp only [State.settleStages_frame]
  refine ⟨link, medium, state, tension, synth, known, slips, active, standby, by simp [t], gate, ?_⟩
  simpa [t, State.beginThreading_att] using queue

/-- Settles O25: both requests reach the eject, which leaves nothing for the settling to do. -/
theorem ejectsFromSeated : Obligations.EjectsFromSeated := by
  intro tag s hroom hs ho hm hr
  constructor
  · rw [exec_unload_of_room s tag hroom, State.gate_seated s tag _ _ ho hm hr, State.takeUnload_ejects s tag hm,
      hs.settle_beginEject (o := .unload) hm tag fun _ => nofun]
    rfl
  · intro r hi hk hp
    rw [exec_load_of_room s tag hroom, State.gate_seated s tag _ _ ho hm hr, State.takeLoad_ejects s tag hm hi ⟨hk, hp⟩,
      hs.settle_beginEject (o := .load) hm tag fun _ => nofun]
    rfl

/-! ### The threader's events -/

/-- UNTHREAD_DONE with no eject to follow ends the LOAD in SEATED (R54, R62). -/
theorem unthreadDone_ends_load {s : State} (hs : s.Settled) {w : Byte} {c : Code} {p : OpPhase} {r : Bool}
    (hphase : s.medium.phase = .returning) (hp : s.medium.present = true)
    (ha : s.medium.after = some { eject := false, code := some c, retry := r })
    (ho : s.link.outstanding = some { op := .load, tag := w, phase := p }) :
    ∃ t, exec .unthreadDone s = .next t ∧
      t.medium = { s.medium with state := .seated, phase := .idle, leader := false, after := none, unmount := none } ∧
      t.link = { s.link with
        outstanding := none, queue := s.link.queue ++ [{ tag := w, code := c, payload := s.loadPayload c }] } ∧
      t.att = s.att.raise .mediumChange ∧ t.transport = s.park.transport ∧ t.settings = s.settings ∧
      t.catalog = s.catalog ∧ t.head = s.head := by
  obtain ⟨medium, transport, link, att, settings, writer, reader, catalog, head⟩ := s.home_fields
  have payload : s.home.loadPayload c = s.loadPayload c := by simp only [State.loadPayload, medium]
  let t := s.unthreaded
  have ended : t = { s.home with
      medium := { s.home.medium with unmount := none }
      link := { s.link with
        outstanding := none, queue := s.link.queue ++ [{ tag := w, code := c, payload := s.loadPayload c }] } } := by
    rw [show t = _ from s.unthreaded_ends hp ha, State.endMedium_load s.home c (link ▸ ho), payload, link]
  have stages : t.settle = t.settleStages := hs.settle_eq_stages (by simp [ended, head]) (by simp [ended, reader])
    (by simp [ended, medium]) (by simp [ended, State.opPhase])
  refine ⟨t.settle, exec_unthreadDone hphase, ?_⟩
  rw [stages]
  simp [ended, medium, transport, att, settings, catalog, head]

/-- UNTHREAD_DONE with an eject to follow begins it in SEATED, the operation going on (R49, R62). -/
theorem unthreadDone_ejects {s : State} (hs : s.Settled) {c : Option Code} {r : Bool}
    (hphase : s.medium.phase = .returning) (hp : s.medium.present = true)
    (ha : s.medium.after = some { eject := true, code := c, retry := r }) :
    ∃ t, exec .unthreadDone s = .next t ∧
      t.medium = { s.medium with
        state := .seated, phase := .ejecting, leader := false, after := some { eject := true, code := c, retry := false } } ∧
      t.link = s.link ∧ t.att = s.att.raise .mediumChange ∧ t.transport = s.park.transport ∧
      t.catalog = s.catalog ∧ t.head = s.head := by
  obtain ⟨medium, transport, link, att, -, -, reader, catalog, head⟩ := s.home_fields
  let t := s.unthreaded
  have ejects : t = s.home.beginEject c := s.unthreaded_ejects hp ha
  have pushed : t.medium = { s.medium with
      state := .seated, phase := .ejecting, leader := false, after := some { eject := true, code := c, retry := false } } := by
    simp [ejects, State.beginEject, medium]
  have stages : t.settle = t.settleStages := hs.settle_eq_stages (by simp [ejects, head]) (by simp [ejects, reader])
    (by simp [pushed]) (hs.no_operation_flushed (by simp [ejects, link]))
  refine ⟨t.settle, exec_unthreadDone hphase, ?_⟩
  rw [stages]
  refine ⟨by simp [pushed], ?_⟩
  simp [ejects, transport, link, att, catalog, head]

/-- STUCK with the tension released and the LOAD answered MEDIUM_FAULT (R62). -/
theorem unthreadTimeout_ends_load {s : State} (hs : s.Settled) {w : Byte} {p : OpPhase}
    (hphase : s.medium.phase = .returning) (ho : s.link.outstanding = some { op := .load, tag := w, phase := p }) :
    ∃ t, exec .unthreadTimeout s = .next t ∧
      t.medium = { s.medium with state := .stuck, phase := .idle, after := none, unmount := none } ∧
      t.link = { s.link with
        outstanding := none, queue := s.link.queue ++ [{ tag := w, code := .mediumFault, payload := .none }] } ∧
      t.att = s.att.raise .mediumChange ∧ t.transport = s.park.transport ∧ t.catalog = s.catalog ∧ t.head = s.head := by
  let x := (s.park.enterMedium .stuck).setMediumPhase .idle
  have link : x.link = s.link := by simp [x]
  let t := s.stuck
  have ended : t = { x.endMedium .mediumFault with
      medium := { (x.endMedium .mediumFault).medium with after := none, unmount := none } } := rfl
  rw [State.endMedium_load x .mediumFault (link ▸ ho), link] at ended
  have stages : t.settle = t.settleStages := hs.settle_eq_stages (by simp [ended, x]) (by simp [ended, x])
    (by simp [ended, x]) (by simp [ended, State.opPhase])
  refine ⟨t.settle, exec_unthreadTimeout hphase, ?_⟩
  rw [stages]
  simp [ended, x, MediumState.announced, State.loadPayload]

/-- Settles O38, event by event; the unthread that begins after the third attempt finds a tape that does not move. -/
theorem threadingAndUnthreading : Obligations.ThreadingAndUnthreading := by
  intro s
  obtain ⟨parked, released, dutyS, dutyT⟩ := s.park_fields
  refine ⟨fun k => exec_leaderCapture, ?_, ?_, exec_windBackDone, ?_, ?_, ?_⟩
  · intro k hk more
    rw [exec_captureTimeout hk, if_pos more]
    rfl
  · intro k hk last ht
    obtain ⟨medium, state, tension, att⟩ := s.beginUnthread_at_rest
      { eject := false, code := some .threadFault, retry := false } (by simp [ht, TransportState.moving])
    refine ⟨_, by rw [exec_captureTimeout hk, if_neg (by omega)], medium, state, tension, ?_⟩
    simp [att]
  · intro w c p r hs hphase hp ha ho
    obtain ⟨t, run, medium, link, att, transport, rest⟩ := unthreadDone_ends_load hs hphase hp ha ho
    exact ⟨t, run, medium, link, att, by simp [transport, parked, released, dutyS, dutyT, rest]⟩
  · intro c r hs hphase hp ha
    obtain ⟨t, run, medium, link, att, transport, rest⟩ := unthreadDone_ejects hs hphase hp ha
    exact ⟨t, run, medium, link, att, by simp [transport, parked, released, rest]⟩
  · intro w p hs hphase ho
    obtain ⟨t, run, medium, link, att, transport, rest⟩ := unthreadTimeout_ends_load hs hphase ho
    exact ⟨t, run, medium, link, att, by simp [transport, parked, released, rest]⟩

end Sys2Proof.Machine
end

section
/-! PROOFS. The read-back of a cartridge memory write, and tension and the rewind, settled. -/

namespace Sys2Proof.Machine

/-! ### The cartridge memory -/

/-- The load-count write made good completes the mount and answers the LOAD (R56, R182). -/
theorem State.mountDone_answers_load {s : State} {i : Identity} {r : CmRecord} {tag : Byte}
    (hp : s.medium.phase = .mountWrite) (hi : s.medium.identity = some i) (hr : i.record = some r) (hk : r.kind = .data)
    (hpc : s.head.pc < 400) (hc : s.medium.source ∈ [Code.ok, .rebuilt, .rebuiltShort])
    (ho : s.link.outstanding = some { op := .load, tag := tag, phase := .working }) :
    (s.mountDone true).medium = { s.medium with state := .mounted, phase := .idle } ∧
    (s.mountDone true).link = { s.link with
      outstanding := none
      queue := s.link.queue ++ [{ tag := tag, code := s.medium.source, payload := .loaded (some i) }] } ∧
    (s.mountDone true).att = s.att.raise .mediumChange ∧ (s.mountDone true).catalog = s.catalog.toBeginning ∧
    (s.mountDone true).head = (s.mountedAtBeginning.openMount r.serial).head ∧
    (s.mountDone true).transport = s.transport ∧ (s.mountDone true).settings = s.settings ∧
    (s.mountDone true).writer = s.writer ∧ (s.mountDone true).reader = s.reader := by
  obtain ⟨medium, att, catalog, link, head, transport, settings, writer, reader⟩ := s.mountedAtBeginning_fields
  let x := s.mountedAtBeginning.openMount r.serial
  have mounted : x.medium = { s.medium with state := .mounted, phase := .idle } := by simp [x, medium]
  have linked : x.link = s.link := by simp [x, link]
  have raised : x.att = s.att.raise .mediumChange := by
    rw [← att]
    exact State.openMount_att _ _ (head ▸ hpc)
  have payload : x.loadPayload s.medium.source = .loaded (some i) :=
    x.loadPayload_of_mount (by simp [mounted, hi]) hr hk hc
  have ended : s.mountDone true = { x with link := { s.link with
      outstanding := none
      queue := s.link.queue ++ [{ tag := tag, code := s.medium.source, payload := .loaded (some i) }] } } := by
    rw [s.mountDone_mounts hp hi hr, State.endMedium_load x _ (linked ▸ ho), payload, linked]
  rw [ended]
  refine ⟨mounted, rfl, raised, ?_⟩
  simp [x, catalog, transport, settings, writer, reader]

/-- Settles O40, by the three ends of a read-back; with nothing waiting no further write begins. -/
theorem cartridgeMemoryWriteEnds : Obligations.CartridgeMemoryWriteEnds := by
  intro s w i readBack hs hwrite hi hwaiting hheld
  have noStart : ¬(s.medium.state = .unthreading ∧ s.medium.phase = .idle) := hs.no_unthread_waits
  refine ⟨?_, ?_, ?_, ?_⟩
  · intro hd first
    refine congrArg Host.Outcome.next ?_
    rw [State.cmReadBack_writes_again hwrite hd first]
    exact hs.settle_eq_self_of_outstanding rfl rfl rfl noStart rfl rfl
  · intro tag k z hd second hz
    let x : State := { s with medium := { s.medium with write := none, identity := some { i with memoryFault := true } } }
    have ended : s.cmReadBack readBack = x.respond tag .mediumFault .none := by
      rw [State.cmReadBack_fails hwrite hi hd second, hz]
      exact State.nextCm_of_nothing_waiting _ (x.respond tag .mediumFault .none) hwaiting hheld
    refine congrArg Host.Outcome.next ?_
    rw [ended]
    exact hs.settle_eq_self_of_outstanding rfl rfl rfl noStart rfl rfl
  · intro tag k z ha hz
    let x : State := { s with
      medium := { s.medium with write := none, identity := some { i with record := some w.record } } }
    have ended : s.cmReadBack readBack = x.storeZone tag k z := by
      rw [State.cmReadBack_stores hwrite hi ha, hz]
      exact State.nextCm_of_nothing_waiting _ (x.storeZone tag k z) hwaiting hheld
    refine congrArg Host.Outcome.next ?_
    rw [ended]
    exact hs.settle_eq_self_of_outstanding rfl rfl rfl noStart rfl rfl
  · intro tag ha hm hphase hk hpc hc ho
    let x : State := { s with
      medium := { s.medium with write := none, identity := some { i with record := some w.record } } }
    let t := x.mountDone true
    obtain ⟨medium, link, att, catalog, head, transport, settings, writer, reader⟩ :=
      State.mountDone_answers_load (s := x) hphase rfl rfl hk hpc hc ho
    obtain ⟨isOpen, serial, mountSeq, ci, table, scan⟩ := x.mountedAtBeginning.openMount_head w.record.serial hpc
    have stages : t.settle = t.settleStages := hs.settle_eq_stages (by rw [head, scan]; rfl) reader
      (by simp [t, medium]) (by simp [t, State.opPhase, link])
    have run : exec (.cartridgeMemoryWriteDone readBack) s = .next t.settle := by
      refine congrArg (fun y : State => Host.Outcome.next y.settle) ?_
      rw [State.cmReadBack_stores hwrite hi ha, hm]
      exact State.nextCm_of_nothing_waiting _ t (by rw [medium]; exact hwaiting) (by rw [medium]; exact hheld)
    refine ⟨t.settle, run, ?_⟩
    rw [stages]
    simp only [State.settleStages_frame]
    rw [head]
    exact ⟨medium, link, att, catalog, isOpen, serial, mountSeq, ci, table, transport, settings, writer⟩

/-! ### Tension and the rewind -/

/-- Settles O44, event by event; only the rewind that ends in the unthread can free a slot that a stage is owed. -/
theorem tensionAndRewind : Obligations.TensionAndRewind := by
  intro s hs
  have noStart : ¬(s.medium.state = .unthreading ∧ s.medium.phase = .idle) := hs.no_unthread_waits
  refine ⟨?_, ?_, exec_relaxTimeout_of_zero, ?_, ?_, ?_⟩
  · intro a hstate htension hmotion hk
    let x : State := { s.enterTransport .stopped with
      transport := { (s.enterTransport .stopped).transport with motion := .idle } }
    let t := x.startTravel (.locateEnd a)
    have settled : t.settle = t := hs.settle_eq_self_of_outstanding rfl rfl rfl noStart rfl rfl
    obtain ⟨state, tension, motion, timer⟩ := x.startTravel_fields (.locateEnd a)
    refine ⟨t, ?_, state, tension, motion, timer, by simp [t, x]⟩
    rw [exec_retensionComplete hstate htension hmotion, x.beginMotion_locateEnd a hk, settled]
  · intro hstate htimer h
    obtain ⟨dutyS, dutyT⟩ : (s.enterTransport .relaxed).transport.dutyS ≤ 1000 ∧
        (s.enterTransport .relaxed).transport.dutyT ≤ 1000 := State.setTension_duties _ _
    obtain ⟨state, tension, timer, motion, -, -, standby, step⟩ := s.enterTransport_fields .relaxed
    exact ⟨_, exec_relaxTimeout hstate htimer h, state, tension, rfl, timer, rfl, by simp, step, standby, motion, dutyS, dutyT,
      by simp⟩
  · intro req hmotion hreq hstop
    obtain ⟨p, transport⟩ := (s.atReelStart.beginReacquisition req).syncPending_transport
    refine ⟨_, exec_reelCountRewindDone_reacquires hmotion hreq hstop, ?_⟩
    simp only [transport, State.syncPending_frame]
    and_intros <;> rfl
  · intro req r hmotion hreq hstop hd
    let t := s.atReelStart.comeToRest
    obtain ⟨state, motion, stop, known, synth⟩ := s.atReelStart.comeToRest_fields hd
    have settled : t.settle = t := hs.settle_eq_self_of_outstanding (by simp [t]) (by simp [t]) (by simp [t])
      (by simpa [t] using noStart) (by simp [t]) (by simp [t])
    refine ⟨t, ?_, by simp [t], state, motion, stop, known, synth, by simp [t]⟩
    rw [exec_reelCountRewindDone_rests hmotion hreq hstop, settled]
  · intro u hmotion hstop hd hu
    let t := s.atReelStart.rewound
    obtain ⟨state, medium⟩ := s.atReelStart.rewound_fields hd hu
    have begun : ¬(t.medium.state = .unthreading ∧ t.medium.phase = .idle) := by
      rintro ⟨-, q⟩
      rw [medium] at q
      cases h : s.medium.leader <;> simp [h] at q
    have stages : t.settle = t.settleStages :=
      hs.settle_eq_stages (by simp [t]) (by simp [t]) begun (hs.no_operation_flushed (by simp [t]))
    refine ⟨t.settle, exec_reelCountRewindDone_unmounts hmotion hstop, ?_⟩
    rw [stages]
    simp only [State.settleStages_frame, t, state, medium]
    simp

end Sys2Proof.Machine
end

section
/-! PROOFS. The Speed Governor's window: R157's table of P, the rule of the current step, and the statement about the window's end. -/

namespace Sys2Proof.Machine

/-! ### The target of a window -/

/-- The step whose rate serves a demand, as a table of its bounds (R156, R157). -/
theorem rawTarget_eq (demand : Nat) :
    rawTarget demand = if demand ≤ 120 then 0 else if demand ≤ 168 then 1 else if demand ≤ 216 then 2
      else if demand ≤ 264 then 3 else if demand ≤ 312 then 4 else 5 := by
  simp only [rawTarget, stepRates, List.findIdx?_cons, List.findIdx?_nil, decide_eq_true_eq]
  repeat' split
  all_goals simp_all

/-- R157's table: an eighth of `p`, rounded up, on top of `p` is within the rate of step 0 up to 106, of step 1 up to 149, and so on. -/
theorem rawTarget_of_load (p : Nat) :
    rawTarget (p + (p + 7) / 8) = if p ≤ 106 then 0 else if p ≤ 149 then 1 else if p ≤ 192 then 2
      else if p ≤ 234 then 3 else if p ≤ 277 then 4 else 5 := by
  have step0 : p + (p + 7) / 8 ≤ 120 ↔ p ≤ 106 := by omega
  have step1 : p + (p + 7) / 8 ≤ 168 ↔ p ≤ 149 := by omega
  have step2 : p + (p + 7) / 8 ≤ 216 ↔ p ≤ 192 := by omega
  have step3 : p + (p + 7) / 8 ≤ 264 ↔ p ≤ 234 := by omega
  have step4 : p + (p + 7) / 8 ≤ 312 ↔ p ≤ 277 := by omega
  simp only [rawTarget_eq, step0, step1, step2, step3, step4]

/-- A window's demand has both its quotients rounded up (R157). -/
theorem Window.made_eq (lo hi stored : Nat) :
    let p := (stored + 65535) / 65536
    let d := p + (p + 7) / 8
    Window.made lo hi stored = { s := stored, p := p, d := d, target := clamp lo hi (rawTarget d) } := by
  simp [Window.made, ceilDiv]

/-! ### The current step after a window -/

section
variable {g : Governor} {target : Nat}

/-- A target above the current step is taken at once (R159). -/
theorem Governor.applyTarget_above (h : g.step < target) :
    g.applyTarget target = { g with step := target, down := 0, quick := false } := if_pos h

/-- A target met keeps the step and clears the down-count (R159). -/
theorem Governor.applyTarget_met (h : g.step = target) :
    g.applyTarget target = { g with down := 0, quick := false } := by
  simp [Governor.applyTarget, h]

/-- Under the quick-fall mark a window below is enough for one step down (R160). -/
theorem Governor.applyTarget_quickFall (h : target < g.step) (hq : g.quick = true) :
    g.applyTarget target = { g with step := g.step - 1, down := 0 } := by
  simp [Governor.applyTarget, Nat.lt_asymm h, Nat.ne_of_gt h, hq]

/-- The first two windows below only count (R159). -/
theorem Governor.applyTarget_counts (h : target < g.step) (hq : g.quick = false) (hd : g.down < 2) :
    g.applyTarget target = { g with down := g.down + 1 } := by
  simp [Governor.applyTarget, Nat.lt_asymm h, Nat.ne_of_gt h, hq, Nat.not_le_of_gt hd]

/-- The third window below lowers the step by one (R159). -/
theorem Governor.applyTarget_falls (h : target < g.step) (hq : g.quick = false) (hd : 2 ≤ g.down) :
    g.applyTarget target = { g with step := g.step - 1, down := 0 } := by
  simp [Governor.applyTarget, Nat.lt_asymm h, Nat.ne_of_gt h, hq, hd]

/-- The quick-fall mark outlasts a window only while the target is below the step the window found (R160). -/
theorem Governor.applyTarget_quick (g : Governor) (target : Nat) :
    (g.applyTarget target).quick = (g.quick && decide (target < g.step)) := by
  rcases Nat.lt_trichotomy g.step target with above | met | below
  · simp [Governor.applyTarget_above above, Nat.le_of_lt above]
  · simp [Governor.applyTarget_met met, met]
  · cases quick : g.quick with
    | true => simp [Governor.applyTarget_quickFall below quick, quick, below]
    | false =>
      rcases Nat.lt_or_ge g.down 2 with early | third
      · simp [Governor.applyTarget_counts below quick early, quick]
      · simp [Governor.applyTarget_falls below quick third, quick]

theorem Governor.applyTarget_last (g : Governor) (target : Nat) : (g.applyTarget target).last = g.last := by
  unfold Governor.applyTarget
  repeat' split
  all_goals rfl

end

/-! ### The window's end -/

/-- Handing the step on leaves the Governor as it stands (R162). -/
theorem State.handStep_gov (s : State) : s.handStep.gov = s.gov := by
  simp [State.handStep]

/-- Settles O49: the window by R157's table, the current step by the target's place above, at or below it. -/
theorem governorWindowEnds : Obligations.GovernorWindowEnds := by
  intro s m stored p d raw target g
  let w : Window := { s := stored, p := p, d := d, target := target }
  let g1 : Governor := { g with last := w }
  let s1 : State := { s with
    engine := { s.engine with meter := Meter.zero, report := m }, gov := g1.applyTarget target }
  have made : Window.made s.settings.minStep s.settings.maxStep (satAdd max32 m.placed m.taken) = w := by
    rw [Window.made_eq]
    simp only [rawTarget_of_load]
    rfl
  have run : exec .governorWindowEnd s = .next s1.handStep := by
    simp only [exec, execGovernorWindowEnd]
    rw [made]
  refine ⟨s1.handStep, run, ?_⟩
  simp only [State.handStep_gov, State.handStep_frame]
  refine ⟨rfl, Governor.applyTarget_last _ _, ?_, ?_, ?_, ?_, ?_, Governor.applyTarget_quick _ _, ?_⟩
  · intro above
    simp [s1, g1, Governor.applyTarget_above (g := g1) above]
  · intro met
    simp [s1, g1, Governor.applyTarget_met (g := g1) met]
  · intro below quick
    simp [s1, g1, Governor.applyTarget_quickFall (g := g1) below quick]
  · intro below slow count
    simp [s1, g1, Governor.applyTarget_counts (g := g1) below slow count]
  · intro below slow count
    simp [s1, g1, Governor.applyTarget_falls (g := g1) below slow count]
  · simp [s1]

end Sys2Proof.Machine
end

section
/-! PROOFS. The dispatch of the operation requests (R192), and the statement about the operations that it turns away. -/

namespace Sys2Proof.Machine

/-! ### The dispatch of an operation -/

/-- With room for its response, every operation request is the dispatch of its operation, its own checks behind it (R192). -/
theorem exec_operation {c : Instr} {o : Op} {tag : Byte} {s : State} (htag : requestTag c = some tag)
    (hop : operationOf c = some o) (hroom : s.hasRoom = true) :
    exec c s = .next (s.gate tag o (State.takeOp o tag)).settle := by
  have taken (f : State → State) : Host.Outcome.next (s.take f) = (.next (f s) : Host.Outcome State Fault Refusal) :=
    congrArg _ (s.take_of_room f hroom)
  cases c with
  | load | unload | flush | scanHead | writeBlocks | writeMarkers | readBlocks | retireFrom =>
    obtain rfl := Option.some.inj htag
    obtain rfl := Option.some.inj hop
    exact taken _
  | locate _ target block =>
    obtain rfl := Option.some.inj htag
    obtain ⟨x, parsed, rfl⟩ := Option.map_eq_some_iff.mp hop
    simp only [exec, execLocate, taken, parsed]
    rfl
  | spaceBlocks _ direction _ | spaceMarkers _ direction _ =>
    obtain rfl := Option.some.inj htag
    obtain ⟨f, parsed, rfl⟩ := Option.map_eq_some_iff.mp hop
    simp only [exec, execSpaceBlocks, execSpaceMarkers, taken, parsed]
    rfl
  | _ => cases hop

section
variable {s : State} (tag : Byte) (o : Op) (own : State → State)

/-- Step 1 of R192. -/
theorem State.gate_outstanding (h : s.link.outstanding ≠ none) : s.gate tag o own = s.respond tag .busy .none :=
  if_pos (Option.isSome_iff_ne_none.mpr h)

/-- Step 2 of R192: the record held is reported once (R132). -/
theorem State.gate_deferred {r : FaultReport} (ho : s.link.outstanding = none) (hm : s.medium.state = .mounted)
    (hd : s.writer.deferred = some r) :
    s.gate tag o own =
      { s with writer := { s.writer with deferred := none } }.respond tag .deferredError (.deferred r) := by
  simp [State.gate, ho, hm, hd]

end

/-! ### What it turns away -/

/-- The end of a step finds nothing to do in a settled state. -/
theorem State.Settled.settle_eq {s : State} (h : s.Settled) : s.settle = s :=
  h.settle_eq_self_of_outstanding rfl rfl rfl h.no_unthread_waits rfl rfl

/-- A response placed leaves nothing over for the end of a step. -/
theorem State.Settled.respond {s : State} (h : s.Settled) (tag : Byte) (code : Code) (payload : Payload) :
    (s.respond tag code payload).Settled := h

/-- Nor does the Deferred Error record cleared. -/
theorem State.Settled.clearDeferred {s : State} (h : s.Settled) :
    ({ s with writer := { s.writer with deferred := none } } : State).Settled := h

/-- Settles O22: the first two steps of the dispatch, neither of which leaves anything to be settled. -/
theorem operationsAreTurnedAway : Obligations.OperationsAreTurnedAway := by
  intro c o tag s htag hop hroom hs
  rw [exec_operation htag hop hroom]
  constructor
  · intro outstanding
    rw [State.gate_outstanding tag o _ outstanding, (hs.respond tag .busy .none).settle_eq]
  · intro r ho hm hd
    rw [State.gate_deferred tag o _ ho hm hd, (hs.clearDeferred.respond tag .deferredError (.deferred r)).settle_eq]

end Sys2Proof.Machine
end

section
/-! SUPPORT. What a READ BLOCKS or a SPACE meets in MOUNTED with no session open: its checks, its own work at the end of the
step (R134, R141, R152), and what the operations of chapter 8 and of the Transport Controller do from STOPPED. -/

namespace Sys2Proof.Machine

/-! ### From the request to the operation's own work -/

/-- A mount in which a READ BLOCKS or a SPACE meets no refusal but that of its count, and no session to flush (R134, R141,
R152, R190, R192). -/
structure State.TakesReads (s : State) : Prop where
  room : s.hasRoom = true
  settled : s.Settled
  noOperation : s.link.outstanding = none
  mounted : s.medium.state = .mounted
  noDeferred : s.writer.deferred = none
  writerIdle : s.writer.state = .idle
  positionValid : s.catalog.positionValid = true

section
variable {s : State}

/-- In MOUNTED, with no operation outstanding and no Deferred Error record, an operation meets its own checks (R192). -/
theorem State.gate_mounted (tag : Byte) (o : Op) (own : State → State) (ho : s.link.outstanding = none)
    (hm : s.medium.state = .mounted) (hd : s.writer.deferred = none) : s.gate tag o own = own s := by
  simp [State.gate, ho, hm, hd]

/-- A count above 0 with the position valid passes rows 1, 3 and 4 of R141. -/
theorem State.inMounted_readChecks {n : Nat} (tag : Byte) (own : State → State) (hm : s.medium.state = .mounted) (hn : n ≠ 0)
    (hv : s.catalog.positionValid = true) : s.inMounted tag (s.readChecks n) own = own s := by
  simp [State.inMounted, State.checked, State.readChecks, MediumState.refusal, hm, hn, hv]

/-- With the Write Controller IDLE the flush phase is over at once (R134). -/
theorem State.takeOperation_idle (tag : Byte) (o : Op) (hw : s.writer.state = .idle) :
    s.takeOperation tag o false = s.accept tag o .flushed := by
  simp [State.takeOperation, State.flushPhase, State.accept, hw]

/-- Such an operation begins its own work at the end of its step, and only stage slots are taken after it. -/
theorem State.TakesReads.exec_begins (h : s.TakesReads) {c : Instr} {o : Op} {tag : Byte} {n : Nat}
    (htag : requestTag c = some tag) (hop : operationOf c = some o)
    (hown : State.takeOp o tag s = s.inMounted tag (s.readChecks n) fun x => x.takeOperation tag o false) (hn : n ≠ 0) :
    exec c s = .next (s.accept tag o .flushed).beginOwnWork.settleStages := by
  obtain ⟨scan, unthread, reader, -, -, -⟩ := h.settled
  rw [exec_operation htag hop h.room, State.gate_mounted tag o _ h.noOperation h.mounted h.noDeferred, hown,
    State.inMounted_readChecks tag _ h.mounted hn h.positionValid, State.takeOperation_idle tag o h.writerIdle,
    State.settle_eq_work (s.accept tag o .flushed) scan unthread reader]

end

theorem State.beginOwnWork_readBlocks (s : State) (tag : Byte) (n : Nat) :
    (s.accept tag (.readBlocks n) .flushed).beginOwnWork = (s.accept tag (.readBlocks n) .flushed).beginRead n := by
  simp [State.beginOwnWork, State.opPhase, State.op, State.accept]

/-! ### Ends of operations -/

/-- The outstanding operation's answer goes into the queue and frees its place (R192). -/
theorem State.endOp_link {s : State} {o : Outstanding} (code : Code) (payload : Payload) (h : s.link.outstanding = some o) :
    (s.endOp code payload).link =
      { s.link with outstanding := none, queue := s.link.queue ++ [{ tag := o.tag, code := code, payload := payload }] } := by
  simp [State.endOp, h]

/-- A READ BLOCKS that ends with no read-ahead leaves none (log 39). -/
theorem State.finishRead_without_readAhead {s : State} (code : Code) (failed : Option (Nat × Nat × Nat))
    (faulted : Option Nat) (h : s.reader.nextDrain = none) :
    (s.finishRead code failed faulted).reader.state = .idle ∧
    (s.finishRead code failed faulted).transport = s.transport ∧
    (s.finishRead code failed faulted).link = (s.endOp code (.read s.reader.delivered s.reader.sent s.catalog.current
      s.catalog.blockCount s.reader.corrected failed faulted)).link := by
  simp [State.finishRead, h, Reader.idle]

/-! ### The transport at rest -/

section
variable {s : State} (h : s.transport.state = .stopped)
include h

/-- At rest there is nothing to halt (R80). -/
theorem State.demandHalt_stopped : s.demandHalt = s := by
  simp [State.demandHalt, State.demandStop, h]

theorem State.haltMotion_stopped : s.haltMotion = { s with transport := { s.transport with deferred := none } } := by
  unfold State.haltMotion
  dsimp only
  split
  · next relaxed => cases h.symm.trans relaxed
  · exact State.demandHalt_stopped h

theorem State.endWork_stopped :
    s.endWork.transport.state = .stopped ∧ s.endWork.transport.motion = s.transport.motion ∧
    s.endWork.catalog = { s.catalog with work := .idle } := by
  rw [State.endWork, State.haltMotion_stopped (s := (s.setWork .idle).freeReads) h]
  exact ⟨h, rfl, rfl⟩

/-- The end of a SPACE moves no tape that is at rest (R154). -/
theorem State.endSpace_stopped (code : Code) (passed : Nat) :
    (s.endSpace code passed).transport.state = .stopped ∧
    (s.endSpace code passed).transport.motion = s.transport.motion ∧
    (s.endSpace code passed).catalog = { s.catalog with work := .idle } ∧
    (s.endSpace code passed).reader.state = .idle ∧
    (s.endSpace code passed).link = (s.endOp code (.spaced passed)).link := by
  have resting : (s.endOp code (.spaced passed)).transport.state = .stopped := by simp [h]
  obtain ⟨state, motion, catalog⟩ := State.endWork_stopped resting
  simp [State.endSpace, state, motion, catalog, Reader.idle]

theorem State.dropReadAhead_stopped :
    s.dropReadAhead.transport.state = .stopped ∧ s.dropReadAhead.transport.motion = s.transport.motion := by
  unfold State.dropReadAhead
  split
  · exact ⟨h, rfl⟩
  · simp only [State.endReadAhead, State.demandHalt_stopped h, ite_self]
    split <;> exact ⟨h, rfl⟩

theorem State.beginSpacing_stopped (o : Op) :
    (s.beginSpacing o).transport.state = .stopped ∧ (s.beginSpacing o).transport.motion = s.transport.motion :=
  State.dropReadAhead_stopped h

/-- From STOPPED, with the position known, a stream that is wanted begins at its ready point or is travelled to (R78, R79). -/
theorem State.requestMotion_stream {o : Owner} (a : SegAddr) (hk : s.transport.known = true) (hw : s.wantsStream o = true) :
    s.requestMotion (.stream o a) =
      if s.transport.pos = readyPoint a then s.startStream o a else s.startTravel (.stream o a) := by
  simp [State.requestMotion, State.beginMotion, State.wants, State.beginKnown, h, hk, hw]

end

/-! ### Where a reading begins -/

/-- 4 segments upstream of `a`, but not upstream of `first`: where R141 and R147 begin to read, and where a forward
marker scan does (log 53). -/
def readStart (first a : SegAddr) : SegAddr :=
  if ordinal (a.back 4) < ordinal first then first else a.back 4

/-- The clamp as the model's operations write it. -/
theorem readStart_eq (first a : SegAddr) : (if (a.back 4).before first then first else a.back 4) = readStart first a := by
  simp [readStart, SegAddr.before]

/-! ### READ BLOCKS -/

/-- The request's own fields, no read-ahead having been found, and the operation at its own work (R139, R141). -/
def State.readBegun (s : State) (n : Nat) : State :=
  { s with reader := { Reader.idle with
      state := .reading, request := some (.readBlocks n), nextDeliver := s.catalog.current } }.setPhase .working

/-- OUTFLOW's slot: a FREE one, or the highest DECODED one (R96). -/
def State.takeOutflow (s : State) : State :=
  if s.lowestFree.isSome then s.takeStage .outflow
  else match highestDecoded s.queue.slots with
    | some i => s.modifySlot i fun _ => { Slot.empty with state := .outflow }
    | none => s

@[simp] theorem State.takeOutflow_frame (s : State) :
    s.takeOutflow.link = s.link ∧ s.takeOutflow.att = s.att ∧ s.takeOutflow.medium = s.medium ∧
    s.takeOutflow.transport = s.transport ∧ s.takeOutflow.port = s.port ∧ s.takeOutflow.writer = s.writer ∧
    s.takeOutflow.reader = s.reader ∧ s.takeOutflow.catalog = s.catalog ∧ s.takeOutflow.head = s.head ∧
    s.takeOutflow.settings = s.settings := by
  unfold State.takeOutflow
  repeat' split
  all_goals simp

section
variable {s : State} (n : Nat)

/-- At block count a READ BLOCKS ends before it asks for anything (R141, R149). -/
theorem State.beginRead_at_end (hr : s.reader.state = .idle) (hc : s.catalog.current = s.catalog.blockCount) :
    s.beginRead n = (s.readBegun n).finishRead .endOfData none none := by
  simp [State.beginRead, State.readBegun, Reader.idle, hr, hc]

/-- Below it the read-ahead begins at the Current Block location (R141). -/
theorem State.beginRead_below_end {l : Location} (hr : s.reader.state = .idle)
    (hc : s.catalog.current ≠ s.catalog.blockCount) (hl : s.catalog.location = some l) :
    s.beginRead n = (s.readBegun n).takeOutflow.startReadAhead l := by
  have location : (s.readBegun n).takeOutflow.catalog.location = some l := by simp [State.readBegun, hl]
  have fresh : ¬(s.reader.state = .ahead ∧ s.reader.nextDrain.isSome = true) := by simp [hr]
  simp only [State.beginRead, if_neg fresh]
  refine (if_neg hc).trans ?_
  split
  · next l' there =>
    cases location.symm.trans there
    rfl
  · next there => cases location.symm.trans there

end

/-- The fields of a fresh read-ahead from a location in extent `i`, planned from `start` (R141). -/
def Reader.aheadFrom (r : Reader) (l : Location) (i : Nat) (start : SegAddr) : Reader :=
  { r with
    nextDrain := some l.stripe, extent := some i, nextPlan := some start, highestMet := none, searches := [], met := []
    halted := false, jump := false, atEnd := false, handed := [], retrying := none }

/-- A fresh read-ahead before its stream is asked for: governed, with no walk (R117, R141, R162). -/
def State.readAheadSet (s : State) (l : Location) (i : Nat) (start : SegAddr) : State :=
  { s with reader := s.reader.aheadFrom l i start, gov := { s.gov with governed := true } }.stopWalk

theorem State.startReadAhead_eq {s : State} {l : Location} {i : Nat} {e : Extent}
    (h : extentOfStripe s.catalog.extents l.stripe = some (i, e)) :
    let start := readStart e.firstAddr { wrap := l.wrap, seg := l.seg }
    s.startReadAhead l = ((s.readAheadSet l i start).requestMotion (.stream .read start)).syncPending := by
  simp only [State.startReadAhead, h, ← readStart_eq]
  rfl

/-- From STOPPED with the position known, the read-ahead's stream begins or is travelled to (R78, R79, R141). -/
theorem State.startReadAhead_stopped {s : State} {l : Location} {i : Nat} {e : Extent}
    (h : extentOfStripe s.catalog.extents l.stripe = some (i, e)) (hstopped : s.transport.state = .stopped)
    (hk : s.transport.known = true) :
    let start := readStart e.firstAddr { wrap := l.wrap, seg := l.seg }
    (s.startReadAhead l).reader = s.reader.aheadFrom l i start ∧
    (s.transport.pos = readyPoint start → (s.startReadAhead l).transport.motion = .stream .read ∧
      (s.startReadAhead l).transport.state = .streaming) ∧
    (s.transport.pos ≠ readyPoint start → (s.startReadAhead l).transport.motion = .travel (.stream .read start) ∧
      (s.startReadAhead l).transport.state = .locating) := by
  intro start
  let x := s.readAheadSet l i start
  have requested : x.requestMotion (.stream .read start) =
      if s.transport.pos = readyPoint start then x.startStream .read start else x.startTravel (.stream .read start) :=
    State.requestMotion_stream (s := x) hstopped start hk rfl
  obtain ⟨p, synced⟩ := (x.requestMotion (.stream .read start)).syncPending_transport
  rw [State.startReadAhead_eq h]
  refine ⟨by simp [start, State.readAheadSet], ?_, ?_⟩
  · intro ready
    rw [synced, requested, if_pos ready]
    exact ⟨rfl, rfl⟩
  · intro away
    rw [synced, requested, if_neg away]
    exact ⟨rfl, rfl⟩

/-! ### SPACE -/

theorem State.beginSpacing_reading (s : State) (o : Op) : (s.beginSpacing o).reader.state = .spacing := rfl

/-- A SPACE at the beginning of its own work: outstanding, the read-ahead discarded, the state SPACING (R152). -/
def State.spacingBegun (s : State) (tag : Byte) (o : Op) : State := (s.accept tag o .working).beginSpacing o

theorem State.spacingBegun_fields (s : State) (tag : Byte) (o : Op) :
    (s.spacingBegun tag o).link = { s.link with outstanding := some { op := o, tag := tag, phase := .working } } ∧
    (s.spacingBegun tag o).reader.state = .spacing ∧ (s.spacingBegun tag o).catalog = s.catalog ∧
    (s.spacingBegun tag o).medium = s.medium ∧ (s.spacingBegun tag o).writer = s.writer ∧
    (s.spacingBegun tag o).head = s.head ∧ (s.spacingBegun tag o).settings = s.settings ∧
    (s.spacingBegun tag o).transport.pos = s.transport.pos := by
  simp [State.spacingBegun, State.accept, State.beginSpacing_reading]

/-- A SPACE that ends at once in STOPPED, with the catalog as its end leaves it: no tape moves (log 42). -/
theorem State.spacing_ends_stopped {s : State} (tag : Byte) (o : Op) (cat : Catalog) (code : Code) (passed : Nat)
    (ho : s.link.outstanding = none) (hstopped : s.transport.state = .stopped) :
    let t := ({ s.spacingBegun tag o with catalog := cat }.endSpace code passed).settleStages
    t.link = { s.link with queue := s.link.queue ++ [{ tag := tag, code := code, payload := .spaced passed }] } ∧
    t.catalog = { cat with work := .idle } ∧ t.transport.state = .stopped ∧
    t.transport.motion = s.transport.motion ∧ t.transport.pos = s.transport.pos ∧ t.reader.state = .idle ∧
    t.medium = s.medium ∧ t.writer = s.writer ∧ t.head = s.head ∧ t.settings = s.settings := by
  obtain ⟨link, -, -, medium, writer, head, settings, pos⟩ := s.spacingBegun_fields tag o
  obtain ⟨atRest, sameMotion⟩ :=
    State.beginSpacing_stopped (s := s.accept tag o .working) (by simpa using hstopped) o
  let x : State := { s.spacingBegun tag o with catalog := cat }
  obtain ⟨state, motion, catalog, reader, answered⟩ := State.endSpace_stopped (s := x) atRest code passed
  have ended := State.endOp_link (s := x) code (.spaced passed) (congrArg Link.outstanding link)
  simp only [State.settleStages_frame, State.endSpace_frame]
  refine ⟨?_, catalog, state, ?_, pos, reader, medium, writer, head, settings⟩
  · rw [answered, ended, link, ho]
  · rw [motion]
    exact sameMotion

theorem State.beginOwnWork_spaceBlocks (s : State) (tag : Byte) (forward : Bool) (n : Nat) :
    (s.accept tag (.spaceBlocks forward n) .flushed).beginOwnWork =
      (s.spacingBegun tag (.spaceBlocks forward n)).beginSpaceBlocks forward n := by
  simp [State.beginOwnWork, State.opPhase, State.op, State.accept, State.setPhase, State.spacingBegun]

theorem State.beginOwnWork_spaceMarkers (s : State) (tag : Byte) (forward : Bool) (n : Nat) :
    (s.accept tag (.spaceMarkers forward n) .flushed).beginOwnWork =
      (s.spacingBegun tag (.spaceMarkers forward n)).beginMarkers forward n := by
  simp [State.beginOwnWork, State.opPhase, State.op, State.accept, State.setPhase, State.spacingBegun]

section
variable {s : State} {n : Nat}

theorem State.beginSpaceBlocks_past_end (h : s.catalog.blockCount ≤ s.catalog.current + n) :
    s.beginSpaceBlocks true n = (s.positionAt s.catalog.blockCount none).endSpace .endOfData
      (s.catalog.blockCount - s.catalog.current) := by
  simp [State.beginSpaceBlocks, h]

theorem State.beginSpaceBlocks_before_beginning (h : s.catalog.current < n) :
    s.beginSpaceBlocks false n = { s with catalog := s.catalog.toBeginning }.endSpace .beginningOfData s.catalog.current := by
  simp [State.beginSpaceBlocks, h]

theorem State.beginSpaceBlocks_to_beginning (h : s.catalog.current = n) :
    s.beginSpaceBlocks false n = { s with catalog := s.catalog.toBeginning }.endSpace .ok n := by
  simp [State.beginSpaceBlocks, h]

theorem State.beginSpaceBlocks_forward (h : s.catalog.current + n < s.catalog.blockCount) :
    s.beginSpaceBlocks true n = s.beginFine (.space s.catalog.current) (s.catalog.current + n) := by
  simp [State.beginSpaceBlocks, Nat.not_le_of_gt h]

theorem State.beginSpaceBlocks_backward (h : n < s.catalog.current) :
    s.beginSpaceBlocks false n = s.beginFine (.space s.catalog.current) (s.catalog.current - n) := by
  simp [State.beginSpaceBlocks, Nat.lt_asymm h, Nat.ne_of_gt h]

end

/-- The fine search is set for the block wanted, from the stop point of its estimate (R35, R36). -/
theorem State.beginFine_catalog {s : State} {target i : Nat} {e : Extent} (p : FinePurpose)
    (h : extentOf s.catalog.extents target = some (i, e)) :
    ∃ f, (s.beginFine p target).catalog = { s.catalog with work := .fine f } ∧ f.purpose = p ∧ f.target = target ∧
      f.next = { wrap := e.wrap, seg := e.stopPoint target } := by
  simp only [State.beginFine, h, State.requestMotion_frame]
  exact ⟨_, rfl, rfl, rfl, rfl⟩

/-! ### SPACE MARKERS -/

/-- A scan as it is set for an extent (R153). -/
def MarkerScan.onExtent (m : MarkerScan) (i want last : Nat) (a : SegAddr) : MarkerScan :=
  { m with extent := i, want := want, last := last, next := a, miss := none, later := [], bare := [], blank := none }

/-- The extent's scan is set whether or not its stream is under way already (R153). -/
theorem State.scanExtent_catalog (s : State) (m : MarkerScan) (i want last : Nat) (a : SegAddr) :
    (s.scanExtent m i want last a).catalog = { s.catalog with work := .markers (m.onExtent i want last a) } := by
  unfold State.scanExtent
  dsimp only
  split <;> simp [State.setWork, MarkerScan.onExtent]

section
variable {s : State} (n : Nat)

/-- Only Current Block at block count has no location while position-valid is set (R18). -/
theorem State.beginMarkers_at_end (h : s.catalog.location = none) : s.beginMarkers true n = s.spaceToEnd 0 := by
  simp only [State.beginMarkers, h]
  split <;> rfl

theorem State.beginMarkers_empty_table (h : s.catalog.extents = []) : s.beginMarkers false n = s.spaceToBeginning 0 := by
  cases l : s.catalog.location <;> simp [State.beginMarkers, h, l, extentOfStripe]

/-- The scan that a SPACE MARKERS FORWARD begins at Current Block's stripe (R153). -/
theorem State.beginMarkers_forward {l : Location} {i : Nat} {e : Extent} (hl : s.catalog.location = some l)
    (he : extentOfStripe s.catalog.extents l.stripe = some (i, e)) (hm : 0 < e.markers) :
    ∃ m, (s.beginMarkers true n).catalog = { s.catalog with work := .markers m } ∧ m.forward = true ∧ m.count = n ∧
      m.left = n ∧ m.start = s.catalog.current ∧ m.want = l.stripe ∧ m.extent = i ∧
      m.next = readStart e.firstAddr { wrap := l.wrap, seg := l.seg } ∧
      (s.beginMarkers true n).link = s.link ∧ (s.beginMarkers true n).reader = s.reader := by
  simp only [State.beginMarkers, hl, he, if_pos hm, if_true, readStart_eq, State.scanExtent_catalog, State.scanExtent_frame]
  exact ⟨_, rfl, rfl, rfl, rfl, rfl, rfl, rfl, rfl, trivial, trivial⟩

end

end Sys2Proof.Machine
end

section
/-! PROOFS. READ BLOCKS, SPACE BLOCKS and SPACE MARKERS as they begin or end at once, settled. -/

namespace Sys2Proof.Machine

/-! ### READ BLOCKS -/

/-- A READ BLOCKS begins its own work in its step (R134, R141). -/
theorem exec_readBlocks_begins {s : State} (h : s.TakesReads) (tag : Byte) {n : Word16} (hn : n ≠ 0) :
    exec (.readBlocks tag n) s =
      .next ((s.accept tag (.readBlocks n.toNat) .flushed).beginRead n.toNat).settleStages := by
  rw [h.exec_begins (o := .readBlocks n.toNat) rfl rfl rfl (BitVec.toNat_ne_iff_ne.mpr hn), State.beginOwnWork_readBlocks]

/-- Settles O31, by the two ways a READ BLOCKS that finds no read-ahead goes. -/
theorem readBlocksBegins : Obligations.ReadBlocksBegins := by
  intro tag n s hroom hs ho hm hd hw _ hr hn hv
  let taken := s.accept tag (.readBlocks n.toNat) .flushed
  let y := taken.readBegun n.toNat
  have run : exec (.readBlocks tag n) s = .next (taken.beginRead n.toNat).settleStages :=
    exec_readBlocks_begins ⟨hroom, hs, ho, hm, hd, hw, hv⟩ tag hn
  have link : y.link = { s.link with
      outstanding := some { op := .readBlocks n.toNat, tag := tag, phase := .working } } := rfl
  constructor
  · intro l i e below hl he hstopped hk first a start
    rw [State.beginRead_below_end (s := taken) n.toNat hr below hl] at run
    obtain ⟨sameLink, att, medium, transport, port, writer, sameReader, catalog, head, settings⟩ := y.takeOutflow_frame
    obtain ⟨reader, ready, away⟩ := State.startReadAhead_stopped (s := y.takeOutflow) (l := l) (catalog ▸ he)
      (transport ▸ hstopped) (transport ▸ hk)
    rw [sameReader] at reader
    rw [transport] at ready away
    refine ⟨_, run, ?_⟩
    simp only [State.settleStages_frame, State.startReadAhead_frame]
    rw [reader]
    exact ⟨sameLink.trans link, rfl, rfl, rfl, rfl, rfl, rfl, rfl, rfl, rfl, ready, away, catalog, medium, settings, att,
      writer, port, head, congrArg Transport.pos transport⟩
  · intro atEnd
    rw [State.beginRead_at_end (s := taken) n.toNat hr atEnd] at run
    obtain ⟨idle, transport, answered⟩ := State.finishRead_without_readAhead (s := y) .endOfData none none rfl
    refine ⟨_, run, ?_⟩
    simp only [State.settleStages_frame, State.finishRead_frame]
    refine ⟨?_, rfl, idle, transport, rfl, rfl, rfl, rfl⟩
    rw [answered, State.endOp_link _ _ (congrArg Link.outstanding link), link, ho]
    rfl

/-! ### SPACE BLOCKS -/

/-- A SPACE BLOCKS begins its own work in its step (R134, R152). -/
theorem exec_spaceBlocks_begins {s : State} (h : s.TakesReads) (tag : Byte) {direction : Byte} {forward : Bool} {n : Word32}
    (hn : n ≠ 0) (hdir : parseDirection direction.toNat = some forward) :
    exec (.spaceBlocks tag direction n) s =
      .next ((s.spacingBegun tag (.spaceBlocks forward n.toNat)).beginSpaceBlocks forward n.toNat).settleStages := by
  rw [h.exec_begins (o := .spaceBlocks forward n.toNat) rfl (by simp [operationOf, hdir]) rfl (BitVec.toNat_ne_iff_ne.mpr hn),
    State.beginOwnWork_spaceBlocks]

/-- The state of a SPACE whose fine search has begun (R152). -/
theorem State.spacing_searches (s : State) (tag : Byte) (o : Op) {target i : Nat} {e : Extent}
    (he : extentOf s.catalog.extents target = some (i, e)) :
    let t := ((s.spacingBegun tag o).beginFine (.space s.catalog.current) target).settleStages
    ∃ f, t.catalog = { s.catalog with work := .fine f } ∧ f.purpose = .space s.catalog.current ∧ f.target = target ∧
      f.next = { wrap := e.wrap, seg := e.stopPoint target } ∧
      t.link.outstanding = some { op := o, tag := tag, phase := .working } ∧ t.reader.state = .spacing ∧
      t.medium = s.medium ∧ t.writer = s.writer ∧ t.head = s.head ∧ t.settings = s.settings := by
  obtain ⟨link, reader, catalog, medium, writer, head, settings, -⟩ := s.spacingBegun_fields tag o
  obtain ⟨f, searches, purpose, wanted, next⟩ :=
    State.beginFine_catalog (s := s.spacingBegun tag o) (.space s.catalog.current) (catalog ▸ he)
  simp only [State.settleStages_frame, State.beginFine_frame]
  exact ⟨f, catalog ▸ searches, purpose, wanted, next, congrArg Link.outstanding link, reader, medium, writer, head, settings⟩

/-- Settles O32: each end with the catalog that it leaves, and the fine search in either direction. -/
theorem spaceBlocksMoves : Obligations.SpaceBlocksMoves := by
  intro tag n s hroom hs ho hm hd hw _ hstopped hn hv c ended first
  have takes : s.TakesReads := ⟨hroom, hs, ho, hm, hd, hw, hv⟩
  have forward := exec_spaceBlocks_begins takes tag (direction := 1) hn rfl
  have backward := exec_spaceBlocks_begins takes tag (direction := 2) hn rfl
  have sameCatalog (f : Bool) : (s.spacingBegun tag (.spaceBlocks f n.toNat)).catalog = s.catalog := by
    obtain ⟨-, -, catalog, -⟩ := s.spacingBegun_fields tag (.spaceBlocks f n.toNat)
    exact catalog
  have ends (f : Bool) := State.spacing_ends_stopped tag (.spaceBlocks f n.toNat) (s := s) (hstopped := hstopped) (ho := ho)
  refine ⟨?_, ?_, ?_, ?_⟩
  · intro past
    rw [State.beginSpaceBlocks_past_end (by rwa [sameCatalog]), State.positionAt, sameCatalog] at forward
    exact ⟨_, forward, ends true _ _ _⟩
  · intro before
    rw [State.beginSpaceBlocks_before_beginning (by rwa [sameCatalog]), sameCatalog] at backward
    exact ⟨_, backward, ends false _ _ _⟩
  · intro reached
    rw [State.beginSpaceBlocks_to_beginning (by rwa [sameCatalog]), sameCatalog] at backward
    exact ⟨_, backward, ends false _ _ _⟩
  · rintro direction target i e (⟨rfl, rfl, inside⟩ | ⟨rfl, inside, rfl⟩) he
    · rw [State.beginSpaceBlocks_forward (by rwa [sameCatalog]), sameCatalog] at forward
      obtain ⟨f, searches⟩ := s.spacing_searches tag (.spaceBlocks true n.toNat) he
      exact ⟨_, f, forward, searches⟩
    · rw [State.beginSpaceBlocks_backward (by rwa [sameCatalog]), sameCatalog] at backward
      obtain ⟨f, searches⟩ := s.spacing_searches tag (.spaceBlocks false n.toNat) he
      exact ⟨_, f, backward, searches⟩

/-! ### SPACE MARKERS -/

/-- A SPACE MARKERS begins its own work in its step (R134, R152). -/
theorem exec_spaceMarkers_begins {s : State} (h : s.TakesReads) (tag : Byte) {direction : Byte} {forward : Bool} {n : Word32}
    (hn : n ≠ 0) (hdir : parseDirection direction.toNat = some forward) :
    exec (.spaceMarkers tag direction n) s =
      .next ((s.spacingBegun tag (.spaceMarkers forward n.toNat)).beginMarkers forward n.toNat).settleStages := by
  rw [h.exec_begins (o := .spaceMarkers forward n.toNat) rfl (by simp [operationOf, hdir]) rfl (BitVec.toNat_ne_iff_ne.mpr hn),
    State.beginOwnWork_spaceMarkers]

/-- Settles O33: the ends at both ends of the data, and the scan from Current Block's stripe. -/
theorem spaceMarkersMoves : Obligations.SpaceMarkersMoves := by
  intro tag n s hroom hs ho hm hd hw _ hstopped hn hv c
  have takes : s.TakesReads := ⟨hroom, hs, ho, hm, hd, hw, hv⟩
  have forward := exec_spaceMarkers_begins takes tag (direction := 1) hn rfl
  have backward := exec_spaceMarkers_begins takes tag (direction := 2) hn rfl
  have begun (f : Bool) := s.spacingBegun_fields tag (.spaceMarkers f n.toNat)
  have ends (f : Bool) (cat : Catalog) (code : Code) :=
    State.spacing_ends_stopped tag (.spaceMarkers f n.toNat) cat code 0 ho hstopped
  refine ⟨?_, ?_, ?_⟩
  · intro hl
    obtain ⟨-, -, catalog, -⟩ := begun true
    rw [State.beginMarkers_at_end _ (by rwa [catalog]), State.spaceToEnd, State.positionAt, catalog] at forward
    obtain ⟨link, moved, -, -, -, reader, -⟩ := ends true
      { c with current := c.blockCount, positionValid := true, location := none } .endOfData
    exact ⟨_, forward, link, by rw [moved, hv], reader⟩
  · intro he
    obtain ⟨-, -, catalog, -⟩ := begun false
    rw [State.beginMarkers_empty_table _ (by rwa [catalog]), State.spaceToBeginning, catalog] at backward
    obtain ⟨link, moved, -, -, -, reader, -⟩ := ends false c.toBeginning .beginningOfData
    exact ⟨_, backward, link, by rw [moved]; rfl, by rw [moved]; rfl, reader⟩
  · intro l i e hl he hm first a
    obtain ⟨link, reader, catalog, medium, writer, head, settings, -⟩ := begun true
    obtain ⟨m, scans, isForward, count, left, start, want, extent, next, sameLink, sameReader⟩ :=
      State.beginMarkers_forward (s := s.spacingBegun tag (.spaceMarkers true n.toNat)) n.toNat (by rwa [catalog])
        (by rwa [catalog]) hm
    rw [catalog] at scans start
    refine ⟨_, m, forward, ?_⟩
    simp only [State.settleStages_frame, State.beginMarkers_frame]
    rw [sameLink, sameReader]
    exact ⟨scans, isForward, count, left, start, want, extent, next, reader, congrArg Link.outstanding link, medium, writer,
      head, settings⟩

end Sys2Proof.Machine
end

section
/-! PROOFS. The count of a block sent and the retry of an expired search, settled. -/

namespace Sys2Proof.Machine

section
variable {s : State} {tag : Byte} {n : Nat}

theorem State.reading_of_working (h : s.link.outstanding = some { op := .readBlocks n, tag := tag, phase := .working }) :
    s.reading = true := by
  simp [State.reading, State.op, State.opPhase, h]

/-! ### Blocks counted -/

/-- Current Block's header and the count delivered, once the successor's header has been located at `l` (R145). -/
def State.countBlock (s : State) (l : Location) (xs : List Handed) : State :=
  { s with
    catalog := { s.catalog with current := s.catalog.current + 1, location := some l }
    reader := { s.reader with delivered := s.reader.delivered + 1, handed := xs } }

theorem State.successorLocated_sent {x : Handed} {xs : List Handed} {k : Nat} {z : Bool} {m : Met}
    (hx : s.reader.handed = x :: xs) (hsent : x.sent = true) (hk : x.successor = some (k, z))
    (hm : (s.reader.met.find? fun m => m.stripe == k) = some m) :
    s.successorLocated = some (x, some
      { stripe := k, wrap := m.addr.wrap, seg := m.addr.seg, atZero := z, headerOnly := !m.decodable }) := by
  simp [State.successorLocated, hx, hsent, hk, hm]

/-- A READ BLOCKS that has met no end and wants more goes on past the block counted (R145, R149). -/
theorem State.advanceCurrent_counts {x : Handed} {xs : List Handed} {l : Location}
    (ho : s.link.outstanding = some { op := .readBlocks n, tag := tag, phase := .working })
    (hl : s.successorLocated = some (x, some l)) (hx : s.reader.handed = x :: xs) (hmarker : x.isMarker = false)
    (hending : s.reader.ending = none) (hreq : s.reader.request = some (.readBlocks n))
    (hlast : s.catalog.current + 1 ≠ s.catalog.blockCount) (hmore : s.reader.delivered + 1 < n)
    (hv : s.catalog.positionValid = true) : s.advanceCurrent = s.countBlock l xs := by
  let t := s.countBlock l xs
  have reading : t.reading = true := State.reading_of_working ho
  have working : t.opPhase = some .working := congrArg (Option.map Outstanding.phase) ho
  have noEnd : t.reader.ending = none := hending
  have goesOn : (t.reading && (t.opPhase == some .working) && (t.reader.ending == none)) = true := by
    simp [reading, working, noEnd]
  have wantsMore : ¬n ≤ s.reader.delivered + 1 := Nat.not_le_of_gt hmore
  simp only [State.advanceCurrent, hl, hv, hx, if_true, List.drop_one, List.tail_cons]
  refine (if_pos goesOn).trans ?_
  simp [hmarker, hlast, hreq, wantsMore, hv, State.countBlock]

/-- The count of a block leaves nothing over for the end of a step. -/
theorem State.Settled.countBlock (h : s.Settled) (l : Location) (xs : List Handed) : (s.countBlock l xs).Settled := h

/-! ### Searches expired -/

/-- With no end found and no search of next to drain at its limit, the READ BLOCKS goes on (R148). -/
theorem State.readEndTest_goes_on (hending : s.reader.ending = none)
    (h : ∀ y ∈ s.reader.searches, some y.stripe = s.reader.nextDrain → y.expired = true → y.retries < s.settings.retryLimit) :
    s.readEndTest = s := by
  have noneFailed : s.failedSearch = none := by
    simp only [State.failedSearch, Option.filter_eq_none_iff]
    intro y found
    obtain ⟨d, drain, searched⟩ := Option.bind_eq_some_iff.mp found
    have itsStripe : y.stripe = d := by simpa using List.find?_some searched
    have retriesLeft : y.expired = true → ¬s.settings.retryLimit ≤ y.retries := fun expired =>
      Nat.not_le_of_gt (h y (List.mem_of_find?_eq_some searched) (by rw [itsStripe, drain]) expired)
    simp +contextual [retriesLeft]
  simp [State.readEndTest, hending, noneFailed]

/-- The lowest expired search below the retry limit is retried (R147). -/
theorem exec_searchExpired_retries {e : Search}
    (ho : s.link.outstanding = some { op := .readBlocks n, tag := tag, phase := .working })
    (he : (s.reader.searches.find? fun e => e.expired && decide (e.retries < s.settings.retryLimit)) = some e)
    (hgoes : s.readEndTest = s) (hretrying : s.reader.retrying = none) : exec .searchExpired s = .next (s.retry e) := by
  have reading := State.reading_of_working ho
  obtain ⟨expired, -⟩ : e.expired = true ∧ e.retries < s.settings.retryLimit := by simpa using List.find?_some he
  have someExpired : (s.reader.searches.any fun e => e.expired) = true :=
    List.any_eq_true.mpr ⟨e, List.mem_of_find?_eq_some he, expired⟩
  simp only [exec, execSearchExpired, State.answerExpired, someExpired, reading, hgoes, hretrying, he]
  rfl

theorem State.restartOf_eq {e : Search} {i : Nat} {x : Extent}
    (h : extentOfStripe s.catalog.extents e.stripe = some (i, x)) :
    s.restartOf e = readStart x.firstAddr (e.firstCopy.getD e.opening) := by
  simp only [State.restartOf, h, ← readStart_eq]
  rfl

/-- The search as its retry leaves it: one retry more, its count begun again, unarmed (R147). -/
def Search.retried (e : Search) : Search := { e with retries := e.retries + 1, expired := false, left := 12, armed := false }

theorem State.retry_reader (s : State) (e : Search) :
    (s.retry e).reader = { s.reader with
      searches := s.reader.searches.map fun x => if x.stripe == e.stripe then e.retried else x
      nextPlan := some (s.restartOf e), retrying := some (s.restartOf e), halted := false, jump := false, atEnd := false
      extent := s.extentHolding (s.restartOf e) e.stripe } := by
  simp [State.retry, Search.retried]

/-- Of the searches after a retry, the one of its stripe is the one retried. -/
theorem State.retry_searches {e y : Search} (h : y ∈ (s.retry e).reader.searches) (hy : y.stripe = e.stripe) :
    y = e.retried := by
  rw [State.retry_reader] at h
  obtain ⟨x, -, rfl⟩ := List.mem_map.mp h
  split at hy <;> simp_all

/-- In STREAMING the retry's stop names the restart segment, and the stream from there waits for rest (R80, R84, R147). -/
theorem State.retry_streaming (e : Search) (hstate : s.transport.state = .streaming) (hstop : s.transport.stop = .none) :
    (s.retry e).transport = { s.transport with
      stop := .demanded (some (s.restartOf e)), deferred := some (.stream .read (s.restartOf e)) } := by
  simp [State.retry, State.demandStop, State.requestMotion, hstate, hstop]

end

/-- Settles O58: the count leaves a settled state settled; the retry ends its step. -/
theorem blocksCountedAndSearches : Obligations.BlocksCountedAndSearches := by
  intro s tag n ho
  constructor
  · intro x xs k z m hs hx hsent hmarker hk hm hending hreq hlast hmore hv
    have located := State.successorLocated_sent hx hsent hk hm
    have counts := State.advanceCurrent_counts ho located hx hmarker hending hreq hlast hmore hv
    refine congrArg Host.Outcome.next ?_
    rw [counts, State.settle_of_settled _ (hs.countBlock _ _)]
    rfl
  · intro e i x he hending hretrying hlimit hextent hstate hstop a first start
    have restart : s.restartOf e = start := State.restartOf_eq hextent
    have reader := s.retry_reader e
    have transport := State.retry_streaming e hstate hstop
    rw [restart] at reader transport
    refine ⟨s.retry e, exec_searchExpired_retries ho he (State.readEndTest_goes_on hending hlimit) hretrying, ?_⟩
    refine ⟨by rw [reader], by rw [reader], by rw [reader], fun y => State.retry_searches, by rw [transport],
      by rw [transport], ?_⟩
    simp

end Sys2Proof.Machine
end

section
/-! PROOFS. The current step under every command but the end of a governor window, CONFIGURE and power-on, and the statement about it. -/

namespace Sys2Proof.Machine

/-- A state that the outcome goes on to has the current step of `s`. -/
def State.StepKeptBy (s : State) (o : Host.Outcome State Fault Refusal) : Prop := ∀ t, o = .next t → t.gov.step = s.gov.step

theorem State.stepKeptBy_next {s t : State} : s.StepKeptBy (.next t) ↔ t.gov.step = s.gov.step :=
  ⟨fun h => h t rfl, fun h _ next => Host.Outcome.next.inj next ▸ h⟩

/-- An event that the state does not admit leaves the part as it was (assumption 1): only an admitted one can touch the step. -/
theorem State.stepKeptBy_admitted {s t : State} {p : Prop} [Decidable p] (h : t.gov.step = s.gov.step) :
    s.StepKeptBy (.next (if p then t else s)) := by
  rw [State.stepKeptBy_next]
  split
  · exact h
  · rfl

/-! ### Requests -/

section
variable {s : State}

/-- A refusal for want of room keeps the step, so a request does when what it does once taken does (R190). -/
theorem State.stepKeptBy_take {f : State → State} (h : (f s).gov.step = s.gov.step) : s.StepKeptBy (.next (s.take f)) := by
  rw [State.stepKeptBy_next]
  unfold State.take
  split
  · exact h
  · rfl

/-- Steps 1 and 2 of R192 and the holding of R48 keep the step. -/
theorem State.gate_step {tag : Byte} {o : Op} {own : State → State} (h : (own s).gov.step = s.gov.step) :
    (s.gate tag o own).gov.step = s.gov.step := by
  unfold State.gate
  repeat' split
  all_goals simp [h]

/-- An operation request, once taken, keeps the step when the operation's own checks and taking do. -/
theorem State.stepKeptBy_operation {tag : Byte} {o : Op} {own : State → State} (h : (own s).gov.step = s.gov.step) :
    s.StepKeptBy (.next (s.take fun t => (t.gate tag o own).settle)) :=
  State.stepKeptBy_take (by simp [State.gate_step h])

end

/-- RESET DRIVE clears the down-count and the quick-fall mark and leaves the current step (R169, R194). -/
theorem execResetDrive_keepsStep (s : State) (tag : Byte) : s.StepKeptBy (execResetDrive tag s) := by
  apply State.stepKeptBy_take
  dsimp only
  split <;> simp

/-- An immediate request or an operation keeps the step, CONFIGURE apart. -/
theorem exec_request_keepsStep {c : Instr} {tag : Byte} (s : State) (htag : requestTag c = some tag)
    (hc : ∀ tag pairs, c ≠ .configure tag pairs) : s.StepKeptBy (exec c s) := by
  cases c with
  | configure tag pairs => exact absurd rfl (hc tag pairs)
  | status | ackAttention | readConfiguration | readZones | readHeadTable | readCondition | readMediumRecords =>
    exact State.stepKeptBy_take (by simp)
  | queryCatalog | setZone | loadCondition | loadMediumRecords | abort =>
    apply State.stepKeptBy_take
    repeat' split
    all_goals simp
  | resetDrive tag => exact execResetDrive_keepsStep s tag
  | load | unload | writeBlocks | writeMarkers | readBlocks | flush | retireFrom | scanHead =>
    exact State.stepKeptBy_operation (by simp)
  | locate | spaceBlocks | spaceMarkers =>
    apply State.stepKeptBy_take
    split
    · simp
    · simp [State.gate_step]
  | _ => cases htag

/-- A frame's request is the request's own row, and no other command can come in a frame (R191). -/
theorem execRequest_eq (c : Instr) (s : State) :
    execRequest c s = if (requestTag c).isSome then exec c s else .next s := by
  cases c <;> rfl

theorem execRequest_keepsStep {c : Instr} (s : State) (hc : ∀ tag pairs, c ≠ .configure tag pairs) :
    s.StepKeptBy (execRequest c s) := by
  rw [execRequest_eq]
  split
  · next request =>
    obtain ⟨tag, htag⟩ := Option.isSome_iff_exists.mp request
    exact exec_request_keepsStep s htag hc
  · exact State.stepKeptBy_next.mpr rfl

theorem execLinkTransaction_keepsStep {bytes : List Byte} (s : State)
    (hc : ∀ tag pairs, parseFrame bytes ≠ .request (.configure tag pairs)) :
    s.StepKeptBy (execLinkTransaction bytes s) := by
  have shifted : (s.shiftOut bytes.length).gov.step = s.gov.step := by simp
  suffices kept : (s.shiftOut bytes.length).StepKeptBy (execLinkTransaction bytes s) from
    fun t next => (kept t next).trans shifted
  unfold execLinkTransaction
  dsimp only
  split
  · exact State.stepKeptBy_next.mpr rfl
  · exact State.stepKeptBy_take (by simp)
  · next c parsed => exact execRequest_keepsStep _ fun tag pairs e => hc tag pairs (e ▸ parsed)

/-! ### Events -/

section
variable (s : State)

/-- A segment that no wrap has is the model's one fault, which goes on to no state. -/
theorem execServoMarkCapture_keepsStep (segment : Nat) (reads : List BoundaryReads) :
    s.StepKeptBy (execServoMarkCapture segment reads s) := by
  unfold execServoMarkCapture
  split
  · intro t fault
    cases fault
  · rw [State.stepKeptBy_next]
    repeat' split
    all_goals simp

theorem execTachCount_keepsStep (direction : ReelDirection) (reads : BoundaryReads) :
    s.StepKeptBy (execTachCount direction reads s) := by
  rw [execTachCount, State.stepKeptBy_next]
  simp only [State.settle_frame, State.countTach_frame, State.passTach_frame]
  split <;> rfl

/-- What the end of the data area means to its owner, and the rest after it, leave the step (R82). -/
theorem execEndOfDataAreaRest_keepsStep (checks : List (List TrackRead)) :
    s.StepKeptBy (execEndOfDataAreaRest checks s) := by
  apply State.stepKeptBy_admitted
  simp only [State.settle_frame, State.comeToRest_frame]
  repeat' split
  all_goals simp

theorem execFillingSlotOpen_keepsStep : s.StepKeptBy (execFillingSlotOpen s) := by
  rw [execFillingSlotOpen, State.stepKeptBy_next]
  split
  · split
    · split
      · next opened =>
        obtain ⟨-, -, -, -, -, -, -, -, gov, -⟩ := State.openFilling_frame _ _ _ opened
        simp [gov]
      · simp
    · rfl
  · rfl

end

/-! ### Every command -/

/-- Of the commands that are no requests, the window's end and power-on alone reach the current step. -/
theorem exec_event_keepsStep {c : Instr} (s : State) (htag : requestTag c = none) (hwindow : c ≠ .governorWindowEnd)
    (hframe : ∀ bytes tag pairs, c = .linkTransaction bytes → parseFrame bytes ≠ .request (.configure tag pairs))
    (hpower : ∀ a b d, c ≠ .powerOnReset a b d) : s.StepKeptBy (exec c s) := by
  cases c with
  | powerOnReset a b d => exact absurd rfl (hpower a b d)
  | governorWindowEnd => exact absurd rfl hwindow
  | linkTransaction bytes => exact execLinkTransaction_keepsStep s fun tag pairs => hframe bytes tag pairs rfl
  | servoMarkCapture segment reads => exact execServoMarkCapture_keepsStep s segment reads
  | tachCount direction reads => exact execTachCount_keepsStep s direction reads
  | endOfDataAreaRest checks => exact execEndOfDataAreaRest_keepsStep s checks
  | fillingSlotOpen => exact execFillingSlotOpen_keepsStep s
  -- always admitted
  | cartridgeMemoryWriteDone | bufferBurstEnd | successorHeaderLocated => exact State.stepKeptBy_next.mpr (by simp)
  -- admitted by one test, with one effect
  | insertion | unthreadDone | unthreadTimeout | windBackDone | positionLost | relaxTimeout | immediateStopRest
  | kilosegmentEvent | decayRunExpiry | pcCommit | fillTimeout | dataWordIn | blockPlacement | blockExpansion =>
    exact State.stepKeptBy_admitted (by simp)
  -- admitted by one test, with an effect by cases
  | cartridgeMemoryReadDone | removal | ejectDone | tensionReached | cleaningPassEnd | retensionComplete | lengthWordIn
  | writeRestart | drainingStart | lengthWordOut | dataWordOut | searchExpired | readRestart =>
    apply State.stepKeptBy_admitted
    try dsimp only
    repeat' split
    all_goals simp
  -- admitted by the state that the event finds
  | leaderCapture | captureTimeout | segmentBoundary | motorStall | reelCountRewindDone | reacquisitionFailed
  | locateMotionDone | controlledStopRest | scanWindowEnd | planOffer | blockAdmission =>
    apply State.stepKeptBy_next.mpr
    try dsimp only
    repeat' split
    all_goals simp
  | _ => cases htag

/-- Settles O7: requests and events apart, a frame's request being the request's own row. -/
theorem onlyTheGovernorChangesTheCurrentStep : Obligations.OnlyTheGovernorChangesTheCurrentStep := by
  intro c s t next hwindow hconfigure hframe hpower
  cases request : requestTag c with
  | some tag => exact exec_request_keepsStep s request hconfigure t next
  | none => exact exec_event_keepsStep s request hwindow hframe hpower t next

end Sys2Proof.Machine
end

section
/-! SUPPORT. What the Head Monitor's operations write of its own record: the Cleaning Call level, the Head Element Table under a
set of results and under FOLLOW, and one entry of it measured. -/

namespace Sys2Proof.Machine

/-! ### The Cleaning Call level (R185) -/

theorem State.evaluateLevel_head (s : State) :
    s.evaluateLevel.head = { s.head with level := cleaningLevel s.settings s.head.ci s.head.meter } := by
  simp [State.evaluateLevel]

/-- A rise of the level, and nothing else, raises CLEANING_CALL. -/
theorem State.evaluateLevel_att (s : State) :
    s.evaluateLevel.att = if s.head.level.rank < (cleaningLevel s.settings s.head.ci s.head.meter).rank
      then s.att.raise .cleaningCall else s.att := by
  simp only [State.evaluateLevel, State.raiseIf, decide_eq_true_eq]
  split <;> rfl

/-! ### The table -/

@[simp] theorem State.evaluateLevel_table (s : State) : s.evaluateLevel.head.table = s.head.table := by
  rw [State.evaluateLevel_head]

@[simp] theorem State.commitPc_table (s : State) : s.commitPc.head.table = s.head.table := by
  simp [State.commitPc]

@[simp] theorem State.decay_table (s : State) : s.decay.head.table = s.head.table := by
  simp [State.decay]

/-- FOLLOW alone writes the table past the counts of R173 (R174). -/
theorem State.followLevels_table (s : State) (levels : List Nat) :
    (s.followLevels levels).head.table = if s.settings.follow
      then s.head.table.mapIdx fun i e => e.follow s.settings (levels.getD i 0) else s.head.table := by
  unfold State.followLevels
  split <;> simp

/-- Of a set of results only the fails counts and FOLLOW reach the table (R173). -/
theorem State.headResults_table (s : State) (fails : List Bool) (levels : List Nat) :
    (s.headResults fails levels).head.table = if s.settings.follow
      then (countElementFails s.head.table fails).mapIdx fun i e => e.follow s.settings (levels.getD i 0)
      else countElementFails s.head.table fails := by
  have followed : (s.headResults fails levels).head.table =
      ({ s with head := s.head.takeResults fails }.followLevels levels).head.table := by
    unfold State.headResults
    dsimp only
    repeat' split
    all_goals simp
  rw [followed, State.followLevels_table]
  rfl

/-- The counts of R173 keep what an element has been measured at. -/
theorem countElementFails_getElem? {table : List Element} {i : Nat} {e : Element} (fails : List Bool)
    (h : table[i]? = some e) :
    ∃ y, (countElementFails table fails)[i]? = some y ∧ y.amplitude = e.amplitude ∧ y.noise = e.noise ∧
      y.margin = e.margin ∧ y.status = e.status := by
  rw [countElementFails, List.getElem?_mapIdx, h, Option.map_some]
  split <;> exact ⟨_, rfl, rfl, rfl, rfl, rfl⟩

/-! ### One entry -/

theorem Element.follow_unscanned {e : Element} (v : Settings) (sample : Nat) (h : e.status = .unscanned) :
    e.follow v sample = e := if_pos h

theorem Element.follow_scanned {e : Element} (v : Settings) (sample : Nat) (h : e.status ≠ .unscanned) :
    e.follow v sample = e.measured v ((7 * e.amplitude + sample) / 8) e.noise := if_neg h

/-- The evaluation of a margin never gives UNSCANNED (R171). -/
theorem statusOfMargin_ne_unscanned (v : Settings) (margin : Nat) : statusOfMargin v margin ≠ .unscanned := by
  unfold statusOfMargin
  repeat' split
  all_goals decide

/-- A margin is DEAD only under the dead threshold (R171). -/
theorem statusOfMargin_ne_dead {v : Settings} {margin : Nat} (h : v.deadThreshold ≤ margin) :
    statusOfMargin v margin ≠ .dead := by
  rw [statusOfMargin, if_pos h]
  split <;> decide

/-- A scanned element stays a scanned one. -/
theorem Element.follow_ne_unscanned {e : Element} (v : Settings) (sample : Nat) (h : e.status ≠ .unscanned) :
    (e.follow v sample).status ≠ .unscanned := by
  rw [Element.follow_scanned v sample h]
  exact statusOfMargin_ne_unscanned v _

theorem Element.follow_amplitude {e : Element} (v : Settings) (sample : Nat) (h : e.status ≠ .unscanned) :
    (e.follow v sample).amplitude = (7 * e.amplitude + sample) / 8 := by
  rw [Element.follow_scanned v sample h]
  rfl

theorem Element.evaluate_amplitude (v : Settings) (e : Element) : (e.evaluate v).amplitude = e.amplitude := by
  unfold Element.evaluate
  split <;> rfl

/-- Where one entry changes, an entry becomes DEAD exactly when this one does (R171). -/
theorem newlyDead_set {table : List Element} {i : Nat} {e : Element} (e' : Element) (h : table[i]? = some e) :
    newlyDead table (table.set i e') = true ↔ e.status ≠ .dead ∧ e'.status = .dead := by
  obtain ⟨hi, -⟩ := List.getElem?_eq_some_iff.mp h
  simp only [newlyDead, List.any_eq_true, Bool.and_eq_true, Bool.not_eq_true', Element.isDead, beq_iff_eq,
    beq_eq_false_iff_ne]
  constructor
  · rintro ⟨⟨x, y⟩, mem, alive, dead⟩
    obtain ⟨j, there⟩ := List.mem_iff_getElem?.mp mem
    obtain ⟨old, new⟩ := List.getElem?_zip_eq_some.mp there
    by_cases same : i = j
    · subst same
      rw [List.getElem?_set_self hi] at new
      obtain rfl := Option.some.inj (h.symm.trans old)
      obtain rfl := Option.some.inj new
      exact ⟨alive, dead⟩
    · rw [List.getElem?_set_ne same] at new
      have kept : x = y := Option.some.inj (old.symm.trans new)
      exact absurd (kept ▸ dead) alive
  · intro changed
    have there : (table.zip (table.set i e'))[i]? = some (e, e') :=
      List.getElem?_zip_eq_some.mpr ⟨h, List.getElem?_set_self hi⟩
    exact ⟨(e, e'), List.mem_iff_getElem?.mpr ⟨i, there⟩, changed⟩

theorem State.setTable_eq (s : State) (table : List Element) :
    s.setTable table = { s with
      head := { s.head with table := table }
      att := if newlyDead s.head.table table then s.att.raise .headCondition else s.att } := by
  unfold State.setTable State.raiseIf
  split <;> rfl

/-- A measurement writes its element's entry, and HEAD_CONDITION is raised when the entry becomes DEAD (R171, R176). -/
theorem State.storeElement_eq {s : State} {i : Nat} {e : Element} (amplitude noise : Nat) (h : s.head.table[i]? = some e) :
    let e' := e.measured s.settings amplitude noise
    s.storeElement i amplitude noise = { s with
      head := { s.head with table := s.head.table.set i e' }
      att := if e.status ≠ .dead ∧ e'.status = .dead then s.att.raise .headCondition else s.att } := by
  have entry : s.head.table.modify i (Element.measured s.settings amplitude noise) =
      s.head.table.set i (e.measured s.settings amplitude noise) := by
    rw [@List.modify_eq_set _ ⟨e⟩, h]
    rfl
  simp only [State.storeElement]
  rw [entry, State.setTable_eq]
  simp only [newlyDead_set _ h]

end Sys2Proof.Machine
end

section
/-! PROOFS. FOLLOW mode, settled. -/

namespace Sys2Proof.Machine

/-- A CONFIGURE evaluates the table against its thresholds and keeps every amplitude (R171, R174). -/
theorem State.applySettings_amplitudes (s : State) (v : Settings) (timeout : Bool) :
    (s.applySettings v timeout).head.table.map Element.amplitude = s.head.table.map Element.amplitude := by
  simp [State.applySettings, Element.evaluate_amplitude]

/-- Of a scanned element FOLLOW takes 200 to 175 in one sample of 0, and to 67 in eight (R174). -/
theorem Element.follow_zeros {e : Element} (v : Settings) (h : e.status ≠ .unscanned) (ha : e.amplitude = 200) :
    (e.follow v 0).amplitude = 175 ∧
    ((((((((e.follow v 0).follow v 0).follow v 0).follow v 0).follow v 0).follow v 0).follow v 0).follow v 0).amplitude =
      67 := by
  have falls {x : Element} {a : Nat} : x.status ≠ .unscanned ∧ x.amplitude = a →
      (x.follow v 0).status ≠ .unscanned ∧ (x.follow v 0).amplitude = 7 * a / 8 := fun ⟨scanned, amplitude⟩ =>
    ⟨Element.follow_ne_unscanned v 0 scanned, amplitude ▸ Element.follow_amplitude v 0 scanned⟩
  have first := falls ⟨h, ha⟩
  have eighth := falls (falls (falls (falls (falls (falls (falls first))))))
  obtain ⟨-, once⟩ := first
  obtain ⟨-, eightTimes⟩ := eighth
  exact ⟨once, eightTimes⟩

/-- Settles O47: the table after a set of results entry by entry, FOLLOW on and off; then R174's figures. -/
theorem followMode : Obligations.FollowMode := by
  refine ⟨?_, rfl, ?_, ?_, fun v e => Element.follow_zeros v, ?_⟩
  · intro s fails levels i e he
    obtain ⟨y, counted, amplitude, noise, margin, status⟩ := countElementFails_getElem? fails he
    cases follow : s.settings.follow with
    | false =>
      refine ⟨y, by simpa [State.headResults_table, follow] using counted, noise, ?_,
        fun _ => ⟨amplitude, margin, status⟩⟩
      rintro ⟨on, -⟩
      cases on
    | true =>
      refine ⟨y.follow s.settings (levels.getD i 0), by simp [State.headResults_table, follow, counted], ?_⟩
      by_cases scanned : y.status = .unscanned
      · rw [Element.follow_unscanned _ _ scanned]
        exact ⟨noise, fun ⟨_, q⟩ => absurd (status ▸ scanned) q, fun _ => ⟨amplitude, margin, status⟩⟩
      · rw [Element.follow_scanned _ _ scanned, ← amplitude, ← noise, ← status]
        refine ⟨rfl, fun _ => ⟨rfl, rfl, rfl⟩, ?_⟩
        rintro (off | unscanned)
        · cases off
        · exact absurd unscanned scanned
  · intro s t tag pairs next
    obtain rfl := Host.Outcome.next.inj next
    unfold State.take
    dsimp only
    repeat' split
    all_goals simp [State.applySettings_amplitudes]
  · omega
  · intro v e sample dead back
    rw [Element.follow_scanned v sample (by simp [dead])]
    exact statusOfMargin_ne_dead back

end Sys2Proof.Machine
end

section
/-! PROOFS. SCAN HEAD and the scanner's windows, settled. -/

namespace Sys2Proof.Machine

/-! ### SCAN HEAD -/

/-- Whatever it was, a read-ahead discarded leaves the Read Controller IDLE (R100). -/
theorem State.dropReadAhead_reader (s : State) : s.dropReadAhead.reader.state = .idle := by
  unfold State.dropReadAhead
  split
  · next idle => exact idle
  · simp only [State.endReadAhead, Bool.false_and, Bool.false_eq_true, if_false]
    split <;> rfl

/-- In STOPPED it does not touch the position known. -/
theorem State.dropReadAhead_known {s : State} (h : s.transport.state = .stopped) :
    s.dropReadAhead.transport.known = s.transport.known := by
  unfold State.dropReadAhead
  split
  · rfl
  · simp only [State.endReadAhead, State.demandHalt_stopped h, ite_self]
    split <;> rfl

/-- With the Write Controller IDLE there is no flush phase, and the read-ahead is discarded (R100, R134). -/
theorem State.takeOperation_discards {s : State} (tag : Byte) (o : Op) (hw : s.writer.state = .idle) :
    s.takeOperation tag o true = s.dropReadAhead.accept tag o .flushed := by
  simp [State.takeOperation, State.flushPhase, State.accept, hw]

/-- In MOUNTED a SCAN HEAD meets no refusal of its own (R175). -/
theorem State.takeScanHead_mounted {s : State} (tag : Byte) (hm : s.medium.state = .mounted) :
    s.takeScanHead tag = s.takeOperation tag .scanHead true := by
  simp [State.takeScanHead, State.inMounted, State.checked, MediumState.refusal, hm]

theorem State.beginOwnWork_scanHead (s : State) (tag : Byte) :
    (s.accept tag .scanHead .flushed).beginOwnWork = (s.accept tag .scanHead .working).beginScan false := by
  simp [State.beginOwnWork, State.opPhase, State.op, State.accept, State.setPhase]

/-- With no session to flush, a SCAN HEAD begins its scan in its own step (R134, R175, R176). -/
theorem exec_scanHead_begins {s : State} (tag : Byte) (hroom : s.hasRoom = true) (hs : s.Settled)
    (ho : s.link.outstanding = none) (hm : s.medium.state = .mounted) (hd : s.writer.deferred = none)
    (hw : s.writer.state = .idle) :
    exec (.scanHead tag) s = .next ((s.dropReadAhead.accept tag .scanHead .working).beginScan false).settleStages := by
  obtain ⟨scan, unthread, -, -, -, -⟩ := hs
  have taken : State.takeOp .scanHead tag s = s.dropReadAhead.accept tag .scanHead .flushed :=
    (State.takeScanHead_mounted tag hm).trans (State.takeOperation_discards tag _ hw)
  rw [exec_operation (o := .scanHead) rfl rfl hroom, State.gate_mounted tag _ _ ho hm hd, taken,
    State.settle_eq_work _ (by simpa [State.accept] using scan) (by simpa [State.accept] using unthread)
      (by simp [State.accept, State.dropReadAhead_reader]),
    State.beginOwnWork_scanHead]

/-- The scan as it begins (R176). -/
def Settings.freshScan (v : Settings) (postClean : Bool) : Scan :=
  { postClean := postClean, a := v.scanA, b := v.scanB, element := v.scanStart, done := 0, pass := 0, elapsed := 0
    measuring := false, signal := none, raised := false, ending := none }

theorem State.beginScan_eq (s : State) (postClean : Bool) :
    s.beginScan postClean = (s.setScan (some (s.settings.freshScan postClean))).requestMotion scanStream := rfl

theorem State.beginScan_head (s : State) (postClean : Bool) :
    (s.beginScan postClean).head = { s.head with scan := some (s.settings.freshScan postClean) } := by
  simp [State.beginScan_eq, State.setScan]

/-- From STOPPED with the position known, the scan's stream begins at the ready point of wrap 0, segment 0, or is travelled to
(R78, R79, R176). -/
theorem State.beginScan_stopped {s : State} (postClean : Bool) (h : s.transport.state = .stopped)
    (hk : s.transport.known = true) :
    (s.transport.pos = { wrap := 0, seg := -2, tach := 0 } → (s.beginScan postClean).transport.motion = .stream .scan ∧
      (s.beginScan postClean).transport.state = .streaming) ∧
    (s.transport.pos ≠ { wrap := 0, seg := -2, tach := 0 } →
      (s.beginScan postClean).transport.motion = .travel (.stream .scan { wrap := 0, seg := 0 }) ∧
      (s.beginScan postClean).transport.state = .locating) := by
  let x := s.setScan (some (s.settings.freshScan postClean))
  have requested : s.beginScan postClean = if s.transport.pos = { wrap := 0, seg := -2, tach := 0 }
      then x.startStream .scan { wrap := 0, seg := 0 } else x.startTravel (.stream .scan { wrap := 0, seg := 0 }) :=
    State.requestMotion_stream (s := x) h { wrap := 0, seg := 0 } hk rfl
  constructor
  · intro ready
    rw [requested, if_pos ready]
    exact ⟨rfl, rfl⟩
  · intro away
    rw [requested, if_neg away]
    exact ⟨rfl, rfl⟩

/-- Settles O36: the scan is begun by the state that the discarded read-ahead leaves, which is at rest where `s` was. -/
theorem scanHeadBegins : Obligations.ScanHeadBegins := by
  intro tag s hroom hs ho hm hd hw _ hstopped hk
  let x := s.dropReadAhead.accept tag .scanHead .working
  obtain ⟨stopped, -⟩ := State.dropReadAhead_stopped hstopped
  have known : x.transport.known = true := (State.dropReadAhead_known hstopped).trans hk
  have streams := State.beginScan_stopped (s := x) false stopped known
  refine ⟨_, s.settings.freshScan false, exec_scanHead_begins tag hroom hs ho hm hd hw, ?_⟩
  simp only [State.settleStages_frame, State.beginScan_head, State.beginScan_frame]
  simpa [x, State.accept, Settings.freshScan] using streams

/-! ### The windows -/

section
variable {s : State} {c : Scan} {level : Byte} (hscan : s.head.scan = some c) (hm : c.measuring = true)
  (he : c.ending = none)
include hscan hm he

theorem exec_scanWindowEnd_signal (h : c.signal = none) :
    exec (.scanWindowEnd level) s = .next (s.setScan (some { c with signal := some level.toNat })) := by
  simp only [exec, execScanWindowEnd, hscan, hm, he, h, and_self, if_true]

theorem exec_scanWindowEnd_noise {a : Nat} (h : c.signal = some a) :
    exec (.scanWindowEnd level) s = .next (s.noiseEnd c a level.toNat).settle := by
  simp only [exec, execScanWindowEnd, hscan, hm, he, h, and_self, if_true]

end

/-- The scan once an element has been measured, `raised` if that made an entry DEAD (R176, R178). -/
def Scan.measuredOne (c : Scan) (raised : Bool) : Scan :=
  { c with
    done := c.done + 1, element := (c.element + 1) % 18, elapsed := c.elapsed + c.pairTime
    raised := c.raised || raised }.nextPair

/-- The noise window of any element but the eighteenth ends: the scan goes on to the next (R176). -/
theorem State.noiseEnd_goes_on {s t : State} {c : Scan} {a n : Nat} (ht : s.storeElement c.element a n = t)
    (h : c.done + 1 < 18) :
    s.noiseEnd c a n = t.setScan (some (c.measuredOne (newlyDead s.head.table t.head.table))) :=
  ht ▸ if_neg (Nat.ne_of_lt h)

/-- That of the eighteenth ends the measuring (R177). -/
theorem State.noiseEnd_last {s t : State} {c : Scan} {a n : Nat} (ht : s.storeElement c.element a n = t)
    (h : c.done = 17) :
    s.noiseEnd c a n = t.scanDone (c.measuredOne (newlyDead s.head.table t.head.table)) :=
  ht ▸ if_pos (congrArg (· + 1) h)

/-- A stream's controlled stop names no resume segment (R80, R177). -/
theorem State.haltMotion_streaming {s : State} (hstate : s.transport.state = .streaming) (hstop : s.transport.stop = .none) :
    s.haltMotion = { s with
      transport := { s.transport with deferred := none, stop := .demanded none }, gov := s.quickStop } := by
  simp only [State.haltMotion, State.demandHalt, State.demandStop, hstate, hstop]
  rfl

/-- The scan once it has ended: its code waits for rest (R177). -/
def Scan.endedWith (c : Scan) (code : Code) : Scan := { c with measuring := false, signal := none, ending := some code }

/-- A scan that ends while its stream runs keeps its code for rest (R177). -/
theorem State.endScanLate_streaming {s : State} {c : Scan} (code : Code) (hscan : s.head.scan = some c) (he : c.ending = none)
    (hstate : s.transport.state = .streaming) (hstop : s.transport.stop = .none) :
    (s.endScanLate code).head = { s.head with scan := some (c.endedWith code) } ∧
    (s.endScanLate code).transport.state = .streaming ∧ (s.endScanLate code).transport.stop = .demanded none := by
  let x := s.setScan (some (c.endedWith code))
  have ends : s.endScanLate code = x.haltMotion := by
    simp only [State.endScanLate, hscan, he, Option.getD_none, Scan.endedWith, x]
  rw [ends, State.haltMotion_streaming (s := x) hstate hstop]
  exact ⟨rfl, hstate, rfl⟩

theorem State.scanDone_scanHead (s : State) {c : Scan} (h : c.postClean = false) :
    s.scanDone c = ((s.setScan (some { c with measuring := false, signal := none })).scanMarks c).endScanLate .ok := by
  simp only [State.scanDone, h, Bool.false_eq_true, if_false]

/-- The marks of a SCAN HEAD: the entries and the scan stay, and SCAN_DONE alone is raised (R177). -/
theorem State.scanMarks_scanHead (s : State) {c : Scan} (h : c.postClean = false) :
    (s.scanMarks c).head.scan = s.head.scan ∧ (s.scanMarks c).head.table = s.head.table ∧
    (s.scanMarks c).att = s.att.raise .scanDone := by
  simp [State.scanMarks, h]

/-- What a SCAN HEAD that has measured every element leaves: its OK waits for rest, and of a stream a controlled stop is
demanded (R80, R177). -/
theorem State.scanDone_streaming {s : State} {c : Scan} (hp : c.postClean = false) (he : c.ending = none)
    (hstate : s.transport.state = .streaming) (hstop : s.transport.stop = .none) :
    (s.scanDone c).head.scan = some (c.endedWith .ok) ∧
    (s.scanDone c).head.table = s.head.table ∧ (s.scanDone c).att = s.att.raise .scanDone ∧
    (s.scanDone c).transport.state = .streaming ∧ (s.scanDone c).transport.stop = .demanded none ∧
    (s.scanDone c).link = s.link ∧ (s.scanDone c).catalog = s.catalog ∧ (s.scanDone c).medium = s.medium ∧
    (s.scanDone c).reader = s.reader := by
  let x := s.setScan (some { c with measuring := false, signal := none })
  obtain ⟨scan, table, raised⟩ := x.scanMarks_scanHead hp
  obtain ⟨head, state, stop⟩ := State.endScanLate_streaming (s := x.scanMarks c) .ok scan he
    (by simpa [x] using hstate) (by simpa [x] using hstop)
  rw [State.scanDone_scanHead s hp]
  refine ⟨congrArg HeadMonitor.scan head, (congrArg HeadMonitor.table head).trans table, ?_, state, stop, ?_⟩
  · simpa [x] using raised
  · simp

/-- A scan that has ended while the tape moves waits for rest: at the end of the step only stage slots can be owed
(R96, R177). -/
theorem State.Settled.settle_of_moving {s t : State} (h : s.Settled) (hmoving : t.transport.state.moving = true)
    (hreader : t.reader = s.reader) (hmedium : t.medium = s.medium) (hlink : t.link = s.link) :
    t.settle = t.settleStages := by
  have noFlush : t.opPhase ≠ some .flushed := h.no_operation_flushed (congrArg Link.outstanding hlink)
  obtain ⟨-, unthread, reader, -, -, -⟩ := h
  have scanWaits : t.settleScan = t := by
    unfold State.settleScan
    repeat' split
    all_goals simp_all [State.atRest]
  rw [State.settle, scanWaits, State.settleUnthread_eq t (hmedium ▸ unthread), State.settleReader_eq t (hreader ▸ reader),
    State.beginOwnWork_eq t noFlush]

/-- Settles O48: a window pair's two ends, and the end of the eighteenth pair, which leaves the scan to wait for rest. -/
theorem scanWindows : Obligations.ScanWindows := by
  intro s c level hs hscan hm he
  refine ⟨exec_scanWindowEnd_signal hscan hm he, ?_⟩
  intro a e hsignal hentry margin e' pair att
  have run := exec_scanWindowEnd_noise (level := level) hscan hm he hsignal
  let x : State := { s with head := { s.head with table := s.head.table.set c.element e' }, att := att }
  have stored : s.storeElement c.element a level.toNat = x := State.storeElement_eq a level.toNat hentry
  let d := c.measuredOne (newlyDead s.head.table x.head.table)
  constructor
  · intro more
    let t := x.setScan (some d)
    obtain ⟨-, nothingElse⟩ := hs
    have settled : t.settle = t := State.settle_of_settled t ⟨he, nothingElse⟩
    refine ⟨t, d, ?_, rfl, rfl, rfl, rfl, rfl, rfl, he, rfl, rfl, rfl, ?_⟩
    · rw [run, State.noiseEnd_goes_on stored more, settled]
    · simp [t, x]
  · intro last hp hstate hstop
    let t := x.scanDone d
    obtain ⟨scan, table, attention, state, stop, link, catalog, medium, reader⟩ :=
      State.scanDone_streaming (s := x) (c := d) hp he hstate hstop
    have stages : t.settle = t.settleStages := hs.settle_of_moving (by rw [state]; rfl) reader medium link
    refine ⟨t.settleStages, d.endedWith .ok, by rw [run, State.noiseEnd_last stored last, stages], ?_⟩
    simp only [State.settleStages_frame]
    exact ⟨scan, rfl, congrArg (· + 1) last, table, attention, stop, link, catalog, medium⟩

end Sys2Proof.Machine
end

section
/-! PROOFS. LOAD CONDITION and LOAD MEDIUM RECORDS, settled. -/

namespace Sys2Proof.Machine

/-- A range that begins at 0 is a bound from above. -/
theorem clamp_zero (hi v : Nat) : clamp 0 hi v = min hi v := by
  unfold clamp
  repeat' split
  all_goals omega

theorem MediumState.unthreadedState_iff (m : MediumState) :
    m.unthreadedState = true ↔ m ∈ [MediumState.empty, .seated, .ejected] := by
  cases m <;> decide

/-! ### LOAD CONDITION -/

/-- The record as a LOAD CONDITION leaves it, before its level is evaluated (R188). -/
def State.withCondition (s : State) (ci meter : Nat) (a : Attribution) : State :=
  { s with head := { s.head with ci := min 1000 ci, meter := min 65535 meter, last := a } }

section
variable {s : State} (tag : Byte) (ci meter : Word32) {attribution : Byte} (h : s.hasRoom = true)
include h

theorem exec_loadCondition_unparsed (ha : Attribution.parse attribution.toNat = none) :
    exec (.loadCondition tag ci meter attribution) s = .next (s.respond tag .badRequest .none) := by
  simp only [exec, execLoadCondition, State.take_of_room s _ h, ha]

theorem exec_loadCondition_parsed {a : Attribution} (ha : Attribution.parse attribution.toNat = some a) :
    exec (.loadCondition tag ci meter attribution) s = .next (
      let t := (s.withCondition ci.toNat meter.toNat a).evaluateLevel
      if s.medium.state.unthreadedState then
        t.respond tag .ok (.conditionTaken (min 1000 ci.toNat) (min 65535 meter.toNat) a t.head.level)
      else s.respond tag .busy .none) := by
  simp only [exec, execLoadCondition, State.take_of_room s _ h, ha, clamp_zero, State.withCondition]

end

/-- Settles O18: the record taken, then the level evaluated on it; the two refusals. -/
theorem loadConditionTakes : Obligations.LoadConditionTakes := by
  intro tag attribution ci meter s hroom
  refine ⟨?_, ?_, fun unparsed => exec_loadCondition_unparsed tag ci meter hroom unparsed⟩
  · intro a parsed unthreaded level
    let x := s.withCondition ci.toNat meter.toNat a
    have head : x.evaluateLevel.head = { s.head with
        ci := min 1000 ci.toNat, meter := min 65535 meter.toNat, last := a, level := level } := x.evaluateLevel_head
    refine ⟨x.evaluateLevel.respond tag .ok
      (.conditionTaken (min 1000 ci.toNat) (min 65535 meter.toNat) a level), ?_, head, x.evaluateLevel_att, ?_⟩
    · rw [exec_loadCondition_parsed tag ci meter hroom parsed]
      simp only [unthreaded, if_true]
      rw [head]
    · simp [x, State.withCondition]
  · intro a parsed threaded
    rw [exec_loadCondition_parsed tag ci meter hroom parsed]
    simp only [threaded, Bool.false_eq_true, if_false]

/-! ### The records of a load -/

/-- A record of the frame as the table takes it, its attribution read as HEAD, MEDIUM or CLEAN (R187, section 11.9). -/
def recordTaken (w : WireRecord) : MediumRecord :=
  recordOf w (if w.lastAttribution.toNat = 1 then .head else if w.lastAttribution.toNat = 2 then .medium else .clean)

/-- The last attribution is in its set (section 11.9). -/
def Attributed (w : WireRecord) : Prop := 1 ≤ w.lastAttribution.toNat ∧ w.lastAttribution.toNat ≤ 3

theorem Attribution.parse_of_range {b : Nat} (h : 1 ≤ b ∧ b ≤ 3) :
    Attribution.parse b = some (if b = 1 then .head else if b = 2 then .medium else .clean) := by
  obtain rfl | rfl | rfl : b = 1 ∨ b = 2 ∨ b = 3 := by omega
  all_goals rfl

theorem Attribution.parse_out_of_range {b : Nat} (h : ¬(1 ≤ b ∧ b ≤ 3)) : Attribution.parse b = none := by
  have not1 : b ≠ 1 := by omega
  have not2 : b ≠ 2 := by omega
  have not3 : b ≠ 3 := by omega
  simp [Attribution.parse, not1, not2, not3]

theorem parseRecords_attributed {records : List WireRecord} (h : ∀ w ∈ records, Attributed w) :
    parseRecords records = some (records.map recordTaken) := by
  induction records with
  | nil => rfl
  | cons w ws ih =>
    obtain ⟨here, later⟩ := List.forall_mem_cons.mp h
    rw [parseRecords, Attribution.parse_of_range here, ih later]
    rfl

/-- One attribution outside its set refuses them all (R187, R191). -/
theorem parseRecords_unattributed {records : List WireRecord} (h : ¬∀ w ∈ records, Attributed w) :
    parseRecords records = none := by
  induction records with
  | nil => exact absurd (by simp) h
  | cons w ws ih =>
    rw [parseRecords]
    by_cases here : Attributed w
    · have later : ¬∀ x ∈ ws, Attributed x := fun q => h (List.forall_mem_cons.mpr ⟨here, q⟩)
      rw [ih later]
      split <;> simp_all
    · rw [Attribution.parse_out_of_range here]

/-! ### The first of duplicates -/

/-- Induction along the order in which a load takes its records; the package's modules are built without Mathlib's. -/
theorem list_concat_induction {α : Type} {motive : List α → Prop} (nil : motive [])
    (concat : ∀ xs x, motive xs → motive (xs ++ [x])) (xs : List α) : motive xs := by
  rw [← xs.reverse_reverse]
  induction xs.reverse with
  | nil => exact nil
  | cons x ys ih =>
    rw [List.reverse_cons]
    exact concat _ _ ih

theorem takeRecords_concat (rs : List MediumRecord) (r : MediumRecord) :
    takeRecords (rs ++ [r]) = if (takeRecords rs).any fun x => x.serial == r.serial then takeRecords rs
      else takeRecords rs ++ [r] := by
  simp [takeRecords]

/-- No serial is lost. -/
theorem takeRecords_any_serial (rs : List MediumRecord) (serial : List Byte) :
    ((takeRecords rs).any fun x => x.serial == serial) = rs.any fun x => x.serial == serial := by
  induction rs using list_concat_induction with
  | nil => rfl
  | concat rs r ih =>
    rw [takeRecords_concat, List.any_append, ← ih]
    split
    · next present =>
      by_cases same : r.serial = serial
      · simp [← same, present]
      · simp [same]
    · rw [List.any_append]

/-- The places of a list of records whose serial no earlier one has (R187). -/
def firstPlaces (records : List WireRecord) : List Nat :=
  (List.range records.length).filter fun i =>
    (records.take i).all fun w => (records[i]?.map WireRecord.serial) != some w.serial

/-- The records there. -/
def firstRecords (records : List WireRecord) : List WireRecord := (firstPlaces records).filterMap fun i => records[i]?

/-- Whether an earlier place is a first one does not turn on what follows. -/
theorem firstPlaces_concat (ws : List WireRecord) (w : WireRecord) :
    firstPlaces (ws ++ [w]) = firstPlaces ws ++ if ws.any fun x => x.serial == w.serial then [] else [ws.length] := by
  have earlier : ∀ i ∈ List.range ws.length,
      (((ws ++ [w]).take i).all fun x => ((ws ++ [w])[i]?.map WireRecord.serial) != some x.serial) =
        (ws.take i).all fun x => (ws[i]?.map WireRecord.serial) != some x.serial := by
    intro i hi
    have inside : i < ws.length := List.mem_range.mp hi
    rw [List.take_append_of_le_length (Nat.le_of_lt inside), List.getElem?_append_left inside]
  have last : (((ws ++ [w]).take ws.length).all fun x => ((ws ++ [w])[ws.length]?.map WireRecord.serial) != some x.serial) =
      !(ws.any fun x => x.serial == w.serial) := by
    simp [List.not_any_eq_all_not, bne, BEq.comm]
  simp only [firstPlaces, List.length_append, List.length_singleton, List.range_succ, List.filter_append,
    List.filter_congr earlier, List.filter_cons, List.filter_nil, last]
  cases ws.any fun x => x.serial == w.serial <;> rfl

theorem firstRecords_concat (ws : List WireRecord) (w : WireRecord) :
    firstRecords (ws ++ [w]) = if ws.any fun x => x.serial == w.serial then firstRecords ws else firstRecords ws ++ [w] := by
  have earlier : (firstPlaces ws).filterMap (fun i => (ws ++ [w])[i]?) = firstRecords ws := by
    have same : (firstPlaces ws).map (fun i => (ws ++ [w])[i]?) = (firstPlaces ws).map fun i => ws[i]? :=
      List.map_congr_left fun i hi => List.getElem?_append_left (List.mem_range.mp (List.mem_filter.mp hi).left)
    have found := congrArg (List.filterMap id) same
    rw [List.filterMap_map, List.filterMap_map] at found
    exact found
  rw [firstRecords, firstPlaces_concat, List.filterMap_append, earlier]
  split <;> simp

/-- The table keeps the records at the first places of their serials, in the order carried (R187). -/
theorem takeRecords_taken (records : List WireRecord) :
    takeRecords (records.map recordTaken) = (firstRecords records).map recordTaken := by
  induction records using list_concat_induction with
  | nil => rfl
  | concat ws w ih =>
    have seen : ((takeRecords (ws.map recordTaken)).any fun x => x.serial == (recordTaken w).serial) =
        ws.any fun x => x.serial == w.serial := by
      rw [takeRecords_any_serial, List.any_map]
      rfl
    rw [List.map_append, List.map_singleton, takeRecords_concat, seen, ih, firstRecords_concat]
    split <;> simp

/-! ### LOAD MEDIUM RECORDS -/

/-- The mount sequence after a load: the highest of the one that stood and the ones taken (R187). -/
theorem foldl_max_bounds (top : Nat) (rs : List MediumRecord) :
    let highest := (rs.map MediumRecord.lastSeq).foldl max top
    top ≤ highest ∧ (∀ r ∈ rs, r.lastSeq ≤ highest) ∧ (highest = top ∨ ∃ r ∈ rs, highest = r.lastSeq) := by
  obtain ⟨reached, bound⟩ := List.max?_eq_some_iff.mp (List.max?_cons' (x := top) (xs := rs.map MediumRecord.lastSeq))
  refine ⟨bound _ List.mem_cons_self, fun r hr => bound _ (List.mem_cons_of_mem _ (List.mem_map_of_mem hr)), ?_⟩
  rcases List.mem_cons.mp reached with stood | taken
  · exact .inl stood
  · obtain ⟨r, hr, same⟩ := List.mem_map.mp taken
    exact .inr ⟨r, hr, same.symm⟩

section
variable {s : State} {records : List WireRecord} (tag : Byte) (h : s.hasRoom = true)
include h

theorem exec_loadMediumRecords_unattributed (hw : ¬∀ w ∈ records, Attributed w) :
    exec (.loadMediumRecords tag records) s = .next (s.respond tag .badRequest .none) := by
  simp only [exec, execLoadMediumRecords, State.take_of_room s _ h, parseRecords_unattributed hw]

theorem exec_loadMediumRecords_attributed (hw : ∀ w ∈ records, Attributed w) :
    exec (.loadMediumRecords tag records) s = .next (
      let kept := (firstRecords records).map recordTaken
      if !s.medium.state.unthreadedState then s.respond tag .busy .none
      else if 32 < records.length then s.respond tag .badRequest .none
      else { s with head := { s.head with
          records := kept, mountSeq := (kept.map MediumRecord.lastSeq).foldl max s.head.mountSeq }
        }.respond tag .ok (.recordsTaken kept.length (records.length - kept.length))) := by
  simp only [exec, execLoadMediumRecords, State.take_of_room s _ h, parseRecords_attributed hw, takeRecords_taken,
    List.length_map]

end

/-- Settles O19, answer by answer in the order of the checks. -/
theorem loadMediumRecordsReplaces : Obligations.LoadMediumRecordsReplaces := by
  intro tag records s hroom good unthreaded answer made firsts kept
  have unthreaded_iff : s.medium.state.unthreadedState = true ↔ unthreaded := MediumState.unthreadedState_iff _
  have run (hw : good) := exec_loadMediumRecords_attributed tag hroom hw
  refine ⟨?_, exec_loadMediumRecords_unattributed tag hroom, ?_, ?_⟩
  · intro hw out few
    refine ⟨_, ?_, foldl_max_bounds s.head.mountSeq kept⟩
    rw [run hw]
    simp only [unthreaded_iff.mpr out, Bool.not_true, Bool.false_eq_true, if_false, if_neg (Nat.not_lt.mpr few)]
    rfl
  · intro hw threaded
    have state : s.medium.state.unthreadedState = false := Bool.eq_false_iff.mpr fun q => threaded (unthreaded_iff.mp q)
    exact (run hw).trans (by simp only [state, Bool.not_false, if_true])
  · intro hw out many
    exact (run hw).trans (by
      simp only [unthreaded_iff.mpr out, Bool.not_true, Bool.false_eq_true, if_false, if_pos many])

end Sys2Proof.Machine
end

section
/-! SUPPORT. What a request meets at the rise of LNK_SEL, whatever its row: it is taken when the response queue has room for its
answer, and refused when it has none (R190). -/

namespace Sys2Proof.Machine

/-- Every request's row tests the room before anything else: it is taken or refused as a whole (R190). -/
theorem exec_request_take {c : Instr} {tag : Byte} (htag : requestTag c = some tag) :
    ∃ f : State → State, ∀ s, exec c s = .next (s.take f) := by
  cases c with
  | status | ackAttention | configure | readConfiguration | queryCatalog | setZone | readZones | readHeadTable
  | readCondition | loadCondition | readMediumRecords | loadMediumRecords | abort | resetDrive | load | unload | locate
  | writeBlocks | writeMarkers | readBlocks | spaceBlocks | spaceMarkers | flush | retireFrom | scanHead =>
    exact ⟨_, fun _ => rfl⟩
  | _ => cases htag

theorem State.hasRoom_eq_false_iff (s : State) :
    s.hasRoom = false ↔ 16 < s.link.queue.length + 1 + (if s.link.outstanding.isSome then 1 else 0) := by
  simp [State.hasRoom]

theorem State.take_of_no_room (s : State) (f : State → State) (h : s.hasRoom = false) :
    s.take f = { s with link := { s.link with refused := true } } := by
  simp [State.take, h]

end Sys2Proof.Machine
end

section
/-! PROOFS. The configuration values under every command but CONFIGURE and power-on, and the statement about them. -/

namespace Sys2Proof.Machine

/-- A state that the outcome goes on to has the configuration values of `s`. -/
def State.SettingsKeptBy (s : State) (o : Host.Outcome State Fault Refusal) : Prop :=
  ∀ t, o = .next t → t.settings = s.settings

theorem State.settingsKeptBy_next {s t : State} : s.SettingsKeptBy (.next t) ↔ t.settings = s.settings :=
  ⟨fun h => h t rfl, fun h _ next => Host.Outcome.next.inj next ▸ h⟩

/-- An event whose test fails leaves the part as it was (assumption 1). -/
theorem State.settingsKeptBy_admitted {s t : State} {p : Prop} [Decidable p] (h : t.settings = s.settings) :
    s.SettingsKeptBy (.next (if p then t else s)) := by
  rw [State.settingsKeptBy_next, apply_ite State.settings, h, ite_self]

/-! ### Requests -/

section
variable {s : State}

/-- A refusal for want of room touches no configuration value, so only what a request does once taken counts (R190). -/
theorem State.settingsKeptBy_take {f : State → State} (h : (f s).settings = s.settings) :
    s.SettingsKeptBy (.next (s.take f)) := by
  rw [State.settingsKeptBy_next, State.take, apply_ite State.settings, h, ite_self]

theorem State.gate_settings {tag : Byte} {o : Op} {own : State → State} (h : (own s).settings = s.settings) :
    (s.gate tag o own).settings = s.settings := by
  unfold State.gate
  repeat' split
  all_goals simp [h]

end

/-- An immediate request or an operation leaves the configuration values, CONFIGURE apart. -/
theorem exec_request_keepsSettings {c : Instr} {tag : Byte} (s : State) (htag : requestTag c = some tag)
    (hc : ∀ tag pairs, c ≠ .configure tag pairs) : s.SettingsKeptBy (exec c s) := by
  cases c with
  | configure tag pairs => exact absurd rfl (hc tag pairs)
  | status | ackAttention | readConfiguration | readZones | readHeadTable | readCondition | readMediumRecords =>
    exact State.settingsKeptBy_take (by simp)
  | queryCatalog | setZone | loadCondition | loadMediumRecords | abort | resetDrive =>
    apply State.settingsKeptBy_take
    try dsimp only
    repeat' split
    all_goals simp
  | load | unload | writeBlocks | writeMarkers | readBlocks | flush | retireFrom | scanHead =>
    exact State.settingsKeptBy_take (by simp [State.gate_settings])
  | locate | spaceBlocks | spaceMarkers =>
    apply State.settingsKeptBy_take
    split
    · simp
    · simp [State.gate_settings]
  | _ => cases htag

/-- A frame brings its request's own row and no other command, on a state with the values it found (R191). -/
theorem execLinkTransaction_keepsSettings {bytes : List Byte} (s : State)
    (hc : ∀ tag pairs, parseFrame bytes ≠ .request (.configure tag pairs)) :
    s.SettingsKeptBy (execLinkTransaction bytes s) := by
  have shifted : (s.shiftOut bytes.length).settings = s.settings := by simp
  suffices kept : (s.shiftOut bytes.length).SettingsKeptBy (execLinkTransaction bytes s) from
    fun t next => (kept t next).trans shifted
  unfold execLinkTransaction
  dsimp only
  split
  · exact State.settingsKeptBy_next.mpr rfl
  · exact State.settingsKeptBy_take (by simp)
  · next c parsed =>
    rw [execRequest_eq]
    split
    · next request =>
      obtain ⟨tag, htag⟩ := Option.isSome_iff_exists.mp request
      exact exec_request_keepsSettings _ htag fun tag pairs e => hc tag pairs (e ▸ parsed)
    · exact State.settingsKeptBy_next.mpr rfl

/-! ### Events -/

section
variable (s : State)

/-- A segment that no wrap has is the model's one fault, which goes on to no state. -/
theorem execServoMarkCapture_keepsSettings (segment : Nat) (reads : List BoundaryReads) :
    s.SettingsKeptBy (execServoMarkCapture segment reads s) := by
  unfold execServoMarkCapture
  split
  · intro t fault
    cases fault
  · rw [State.settingsKeptBy_next]
    repeat' split
    all_goals simp

/-- What the end of the data area means to its owner, and the rest after it, leave the values (R82). -/
theorem execEndOfDataAreaRest_keepsSettings (checks : List (List TrackRead)) :
    s.SettingsKeptBy (execEndOfDataAreaRest checks s) := by
  apply State.settingsKeptBy_admitted
  simp only [State.settle_frame, State.comeToRest_frame]
  repeat' split
  all_goals simp

theorem execFillingSlotOpen_keepsSettings : s.SettingsKeptBy (execFillingSlotOpen s) := by
  rw [execFillingSlotOpen, State.settingsKeptBy_next]
  split
  · split
    · split
      · next opened => simp [State.openFilling_frame _ _ _ opened]
      · simp
    · rfl
  · rfl

end

/-! ### Every command -/

/-- Of the commands that are no requests, power-on alone sets a configuration value (R198). -/
theorem exec_event_keepsSettings {c : Instr} (s : State) (htag : requestTag c = none)
    (hframe : ∀ bytes tag pairs, c = .linkTransaction bytes → parseFrame bytes ≠ .request (.configure tag pairs))
    (hpower : ∀ a b d, c ≠ .powerOnReset a b d) : s.SettingsKeptBy (exec c s) := by
  cases c with
  | powerOnReset a b d => exact absurd rfl (hpower a b d)
  | linkTransaction bytes => exact execLinkTransaction_keepsSettings s fun tag pairs => hframe bytes tag pairs rfl
  | servoMarkCapture segment reads => exact execServoMarkCapture_keepsSettings s segment reads
  | endOfDataAreaRest checks => exact execEndOfDataAreaRest_keepsSettings s checks
  | fillingSlotOpen => exact execFillingSlotOpen_keepsSettings s
  -- always admitted
  | cartridgeMemoryWriteDone | bufferBurstEnd | successorHeaderLocated | governorWindowEnd =>
    exact State.settingsKeptBy_next.mpr (by simp)
  -- admitted by one test
  | insertion | unthreadDone | unthreadTimeout | windBackDone | positionLost | relaxTimeout | immediateStopRest
  | kilosegmentEvent | decayRunExpiry | pcCommit | fillTimeout | dataWordIn | blockPlacement | blockExpansion =>
    exact State.settingsKeptBy_admitted (by simp)
  -- admitted by one test, with an effect by cases
  | cartridgeMemoryReadDone | removal | ejectDone | tensionReached | cleaningPassEnd | retensionComplete | lengthWordIn
  | writeRestart | drainingStart | lengthWordOut | dataWordOut | searchExpired | readRestart =>
    apply State.settingsKeptBy_admitted
    try dsimp only
    repeat' split
    all_goals simp
  -- admitted by the state that the event finds
  | leaderCapture | captureTimeout | tachCount | segmentBoundary | motorStall | reelCountRewindDone | reacquisitionFailed
  | locateMotionDone | controlledStopRest | scanWindowEnd | planOffer | blockAdmission =>
    apply State.settingsKeptBy_next.mpr
    try dsimp only
    repeat' split
    all_goals simp
  | _ => cases htag

/-- Settles O6: requests and events apart, a frame's request being the request's own row. -/
theorem onlyConfigureChangesTheSettings : Obligations.OnlyConfigureChangesTheSettings := by
  intro c s t next hconfigure hframe hpower
  cases request : requestTag c with
  | some tag => exact exec_request_keepsSettings s request hconfigure t next
  | none => exact exec_event_keepsSettings s request hframe hpower t next

end Sys2Proof.Machine
end

section
/-! PROOFS. Requests refused for want of room, STATUS and ACK ATTENTION, settled. -/

namespace Sys2Proof.Machine

/-- Settles O9: no row of a request looks further than the room when there is none. -/
theorem requestWithoutRoomIsRefused : Obligations.RequestWithoutRoomIsRefused := by
  intro c s tag htag full
  obtain ⟨f, run⟩ := exec_request_take htag
  rw [run, State.take_of_no_room s f (s.hasRoom_eq_false_iff.mpr full)]

/-- Settles O12: with room, the request's own effect, the snapshot being of the state that it finds. -/
theorem statusMarksSeen : Obligations.StatusMarksSeen := by
  intro tag s hroom
  exact congrArg _ (s.take_of_room _ hroom)

/-- Settles O13: with room, the request's own effect. -/
theorem ackAttentionClears : Obligations.AckAttentionClears := by
  intro tag kinds s hroom cleared
  exact congrArg _ (s.take_of_room _ hroom)

end Sys2Proof.Machine
end

section
/-! PROOFS. The attention marks bit by bit and the ATTENTION line (R197), settled. -/

namespace Sys2Proof.Machine

/-! ### Kinds as bits -/

/-- The place of a kind in section 11.7. -/
def Kind.place : Kind → Nat
  | .mediumChange => 0 | .deferredError => 1 | .cleaningCall => 2 | .headCondition => 3
  | .mediumSuspect => 4 | .zoneOverlap => 5 | .scanDone => 6 | .earlyWarning => 7

theorem Kind.bit_eq_twoPow (k : Kind) : k.bit = BitVec.twoPow 8 k.place := by
  cases k <;> rfl

theorem Kind.place_lt (k : Kind) : k.place < 8 := by
  cases k <;> decide

/-- Every bit of a set of kinds is some kind's. -/
theorem Kind.exists_place {i : Nat} (h : i < 8) : ∃ k : Kind, k.place = i :=
  match i, h with
  | 0, _ => ⟨.mediumChange, rfl⟩
  | 1, _ => ⟨.deferredError, rfl⟩
  | 2, _ => ⟨.cleaningCall, rfl⟩
  | 3, _ => ⟨.headCondition, rfl⟩
  | 4, _ => ⟨.mediumSuspect, rfl⟩
  | 5, _ => ⟨.zoneOverlap, rfl⟩
  | 6, _ => ⟨.scanDone, rfl⟩
  | 7, _ => ⟨.earlyWarning, rfl⟩

theorem Kind.bit_ne_zero (k : Kind) : k.bit ≠ 0 := by
  cases k <;> decide

/-- A set of kinds holds a kind when its bit there is set. -/
theorem Kind.and_bit_ne_zero_iff (x : Byte) (k : Kind) : x &&& k.bit ≠ 0 ↔ x.getLsbD k.place = true := by
  have held : x &&& k.bit = if x.getLsbD k.place then k.bit else 0 := by
    rw [k.bit_eq_twoPow]
    exact BitVec.and_twoPow x k.place
  rw [held]
  split
  · next present => exact iff_of_true k.bit_ne_zero present
  · next absent => exact iff_of_false (by simp) absent

theorem Kind.and_bit_eq_zero_iff (x : Byte) (k : Kind) : x &&& k.bit = 0 ↔ x.getLsbD k.place = false := by
  rw [← Bool.not_eq_true, ← k.and_bit_ne_zero_iff]
  exact Decidable.not_not.symm

theorem Kind.getLsbD_bit (k : Kind) : k.bit.getLsbD k.place = true := by
  cases k <;> rfl

/-- A set of kinds is empty when it holds none. -/
theorem ne_zero_iff_exists_kind (x : Byte) : x ≠ 0 ↔ ∃ k : Kind, x &&& k.bit ≠ 0 := by
  constructor
  · intro nonempty
    apply Classical.byContradiction
    intro none
    apply nonempty
    apply BitVec.eq_of_getLsbD_eq
    intro i hi
    obtain ⟨k, rfl⟩ := Kind.exists_place hi
    have unheld : x.getLsbD k.place = false :=
      Bool.eq_false_iff.mpr fun held => none ⟨k, (k.and_bit_ne_zero_iff x).mpr held⟩
    rw [unheld, BitVec.ofNat_eq_ofNat, BitVec.getLsbD_zero]
  · rintro ⟨k, held⟩ rfl
    simp at held

/-! ### The line and the marks -/

/-- The line is asserted while a kind is pending and unmasked (R197). -/
theorem attentionLine_iff (a : Attention) (mask : Byte) :
    attentionLine a mask = true ↔ ∃ k : Kind, a.pending &&& k.bit ≠ 0 ∧ mask &&& k.bit = 0 := by
  rw [attentionLine, bne_iff_ne, ne_zero_iff_exists_kind]
  apply exists_congr
  intro k
  rw [k.and_bit_ne_zero_iff, k.and_bit_ne_zero_iff, k.and_bit_eq_zero_iff]
  simp [k.place_lt]

theorem Attention.raise_pending (a : Attention) (k : Kind) : (a.raise k).pending &&& k.bit ≠ 0 := by
  rw [k.and_bit_ne_zero_iff]
  simp [Attention.raise, k.getLsbD_bit]

/-- A kind acknowledged is cleared when it is pending and seen, whatever the mask (R196, R197). -/
theorem Attention.acknowledge_pending (a : Attention) (k : Kind) (hp : a.pending &&& k.bit ≠ 0) (hs : a.seen &&& k.bit ≠ 0) :
    (a.acknowledge k.bit).pending &&& k.bit = 0 := by
  rw [k.and_bit_ne_zero_iff] at hp hs
  rw [k.and_bit_eq_zero_iff]
  simp [Attention.acknowledge, Attention.clearable, k.getLsbD_bit, hp, hs]

theorem flagBit_eq (b : Bool) (weight : Nat) : flagBit b weight = b.toNat * weight := by
  cases b <;> simp [flagBit]

/-- Bit 5 of the link byte is the line: the count stays below its weight, and the other flags stand above it (section 11.9). -/
theorem State.linkByte_attention (s : State) : s.linkByte.getLsbD 5 = attentionLine s.att s.settings.mask := by
  have weights (n line refused outstanding : Nat) (h : line < 2) :
      (n % 32 + line * 32 + refused * 64 + outstanding * 128) / 2 ^ 5 % 2 = line := by omega
  rw [State.linkByte, BitVec.getLsbD_ofNat, Nat.testBit_eq_decide_div_mod_eq]
  simp only [flagBit_eq, weights _ _ _ _ (Bool.toNat_lt _)]
  cases attentionLine s.att s.settings.mask <;> rfl

/-- Settles O10, sentence by sentence of R197 (the model's own function has the obligation's name). -/
theorem attentionLineFollowsMarks : Obligations.AttentionLine :=
  ⟨attentionLine_iff, rfl, fun _ _ => rfl, rfl, Attention.raise_pending, Attention.acknowledge_pending,
    fun s => ⟨s.linkByte_attention, rfl, rfl⟩⟩

end Sys2Proof.Machine
end

section
/-! PROOFS. The Command Link's transactions (R190, R191): what is shifted out, and which frames are requests, settled. -/

namespace Sys2Proof.Machine

/-! ### The frames of section 11.9 -/

/-- A parameter length that the code takes, `records` being the first parameter byte (R191, section 11.9). -/
def TakesLength (code : Byte) (n records : Nat) : Prop :=
  code.toNat ∈ [0x01, 0x04, 0x07, 0x08, 0x09, 0x0B, 0x0D, 0x0E, 0x20, 0x21, 0x28, 0x2A] ∧ n = 0 ∨
  code.toNat = 0x02 ∧ n = 1 ∨ code.toNat ∈ [0x23, 0x24, 0x25] ∧ n = 2 ∨ code.toNat = 0x29 ∧ n = 4 ∨
  code.toNat ∈ [0x05, 0x22, 0x26, 0x27] ∧ n = 5 ∨ code.toNat ∈ [0x06, 0x0A] ∧ n = 9 ∨
  code.toNat = 0x03 ∧ (∃ pairs, 1 ≤ pairs ∧ pairs ≤ 19 ∧ n = 5 * pairs) ∨
  code.toNat = 0x0C ∧ records ≤ 42 ∧ n = 1 + 24 * records

/-- The lengths of CONFIGURE: 1 to 19 pairs of 5 bytes. -/
theorem pairs_length_iff (n : Nat) :
    (n % 5 = 0 ∧ 1 ≤ n / 5 ∧ n / 5 ≤ 19) ↔ ∃ pairs, 1 ≤ pairs ∧ pairs ≤ 19 ∧ n = 5 * pairs := by
  constructor
  · intro _
    exact ⟨n / 5, by omega⟩
  · rintro ⟨pairs, _⟩
    omega

/-- The length of LOAD MEDIUM RECORDS: the count and that many records of 24 bytes, 42 at most. -/
theorem records_length_iff (n records : Nat) :
    (1 ≤ n ∧ n = 1 + 24 * records ∧ records ≤ 42) ↔ records ≤ 42 ∧ n = 1 + 24 * records := by
  omega

/-- Code by code, the parameters make a request when their number is one that the code takes. -/
theorem parseRequest_isSome_iff (code tag : Byte) (ps : List Byte) :
    (parseRequest code tag ps).isSome = true ↔ TakesLength code ps.length (ps.getD 0 0).toNat := by
  unfold parseRequest TakesLength
  dsimp only
  split
  case h_26 => simp_all -- a code that section 11.9 has not
  all_goals simp [*, pairs_length_iff, records_length_iff]

/-- A request made of a frame bears the frame's tag. -/
theorem requestTag_parseRequest {code tag : Byte} {ps : List Byte} {c : Instr} (h : parseRequest code tag ps = some c) :
    requestTag c = some tag := by
  unfold parseRequest at h
  dsimp only at h
  repeat' split at h
  all_goals cases h <;> rfl

/-- No code takes more than the 1,024 bytes that a frame may carry. -/
theorem TakesLength.le {code : Byte} {n records : Nat} (h : TakesLength code n records) : n ≤ 1024 := by
  unfold TakesLength at h
  omega

/-- The first parameter byte counts only where there is one. -/
theorem TakesLength.congr {code : Byte} {n r r' : Nat} (h : n ≠ 0 → r = r') :
    TakesLength code n r ↔ TakesLength code n r' := by
  by_cases hn : n = 0
  · have never (x : Nat) : ¬(code.toNat = 0x0C ∧ x ≤ 42 ∧ n = 1 + 24 * x) := by omega
    simp only [TakesLength, never]
  · rw [h hn]

/-- A frame of 4 bytes or more: its two length bytes say how many parameter bytes are taken (R191). -/
theorem parseFrame_cons {code : Byte} (tag high low : Byte) (more : List Byte) (hcode : code ≠ 0) :
    let n := high.toNat * 256 + low.toNat
    parseFrame (code :: tag :: high :: low :: more) =
      if 1024 < n ∨ more.length < n then .bad tag
      else (parseRequest code tag (more.take n)).elim (.bad tag) .request := by
  have length : beField (code :: tag :: high :: low :: more) 2 2 = high.toNat * 256 + low.toNat := by
    simp [beField, beNat]
  have short : ((code :: tag :: high :: low :: more).length < 4 ∨ 1024 < high.toNat * 256 + low.toNat ∨
      (code :: tag :: high :: low :: more).length < 4 + (high.toNat * 256 + low.toNat)) ↔
      1024 < high.toNat * 256 + low.toNat ∨ more.length < high.toNat * 256 + low.toNat := by
    simp only [List.length_cons]
    omega
  intro n
  simp only [parseFrame, hcode, if_false, length, short, List.getD_cons_zero, List.drop_succ_cons, List.drop_zero]
  cases parseRequest code tag (more.take n) <;> rfl

/-- The parameter bytes of a frame that has come whole make a request when its code takes their number. -/
theorem parseRequest_take_isSome_iff (code tag : Byte) {more : List Byte} {n : Nat} (hwhole : n ≤ more.length) :
    (parseRequest code tag (more.take n)).isSome = true ↔ TakesLength code n (more.headD 0).toNat := by
  rw [parseRequest_isSome_iff, List.length_take_of_le hwhole]
  apply TakesLength.congr
  intro hn
  cases more <;> cases n <;> simp_all

section
variable {code : Byte} (tag : Byte) {high low : Byte} {more : List Byte} (hcode : code ≠ 0)
include hcode

/-- A frame whose length its code takes, and that has come whole, is a request with its tag (R191). -/
theorem parseFrame_taken (htakes : TakesLength code (high.toNat * 256 + low.toNat) (more.headD 0).toNat)
    (hwhole : high.toNat * 256 + low.toNat ≤ more.length) :
    ∃ c, parseFrame (code :: tag :: high :: low :: more) = .request c ∧ requestTag c = some tag := by
  obtain ⟨c, parsed⟩ := Option.isSome_iff_exists.mp ((parseRequest_take_isSome_iff code tag hwhole).mpr htakes)
  have fits := htakes.le
  refine ⟨c, ?_, requestTag_parseRequest parsed⟩
  rw [parseFrame_cons tag high low more hcode, if_neg (by omega), parsed]
  rfl

/-- A frame whose length its code does not take, or that has not come whole, is malformed (R191). -/
theorem parseFrame_malformed
    (h : ¬TakesLength code (high.toNat * 256 + low.toNat) (more.headD 0).toNat ∨
      more.length < high.toNat * 256 + low.toNat) :
    parseFrame (code :: tag :: high :: low :: more) = .bad tag := by
  rw [parseFrame_cons tag high low more hcode]
  split
  · rfl
  · next whole =>
    have arrived : high.toNat * 256 + low.toNat ≤ more.length := by omega
    have untaken := h.resolve_right (Nat.not_lt.mpr arrived)
    rw [← parseRequest_take_isSome_iff code tag arrived, Bool.not_eq_true, Option.isSome_eq_false_iff,
      Option.isNone_iff_eq_none] at untaken
    rw [untaken]
    rfl

end

/-- A frame of fewer than 4 bytes is malformed, the tag byte taken as it came (R191). -/
theorem parseFrame_short {bytes : List Byte} (hsome : bytes ≠ []) (hcode : bytes.head? ≠ some 0) (hshort : bytes.length < 4) :
    parseFrame bytes = .bad (bytes.getD 1 0) := by
  cases bytes with
  | nil => exact absurd rfl hsome
  | cons code more =>
    have nonzero : code ≠ 0 := fun zero => hcode (congrArg some zero)
    simp only [parseFrame, if_neg nonzero, if_pos (Or.inl hshort)]
    rfl

/-- No byte, or a first byte 0x00, marks no request (R190). -/
theorem parseFrame_noRequest {bytes : List Byte} (h : bytes = [] ∨ bytes.head? = some 0) : parseFrame bytes = .noRequest := by
  rcases h with rfl | zero
  · rfl
  · obtain ⟨more, rfl⟩ := List.head?_eq_some_iff.mp zero
    rfl

/-- Only a request's own row comes in a frame (R191). -/
theorem requestTag_isSome_of_parseFrame {bytes : List Byte} {c : Instr} (h : parseFrame bytes = .request c) :
    (requestTag c).isSome = true := by
  cases bytes with
  | nil => cases h
  | cons code more =>
    simp only [parseFrame] at h
    split at h
    · cases h
    · split at h
      · cases h
      · split at h
        · next parsed =>
          cases h
          rw [requestTag_parseRequest parsed]
          rfl
        · cases h

/-! ### The transaction -/

/-- What a transaction shifts out, and what it leaves of the queue and the refusal (R190). -/
theorem State.shiftOut_eq (s : State) (n : Nat) :
    let frame := (s.link.queue.head?.map Response.bytes).getD []
    s.shiftOut n = { s with link := { s.link with
      shiftedOut := ((s.linkByte :: frame) ++ List.replicate n 0).take n
      queue := if frame.length + 1 ≤ n then s.link.queue.drop 1 else s.link.queue
      refused := s.link.refused && (n == 0) } } := by
  unfold State.shiftOut
  cases s.link.queue <;> rfl

section
variable {bytes : List Byte} (s : State)

theorem exec_linkTransaction_noRequest (h : parseFrame bytes = .noRequest) :
    exec (.linkTransaction bytes) s = .next (s.shiftOut bytes.length) := by
  simp only [exec, execLinkTransaction, h]

theorem exec_linkTransaction_bad {tag : Byte} (h : parseFrame bytes = .bad tag)
    (hroom : (s.shiftOut bytes.length).hasRoom = true) :
    exec (.linkTransaction bytes) s = .next ((s.shiftOut bytes.length).respond tag .badRequest .none) := by
  simp only [exec, execLinkTransaction, h, State.take_of_room _ _ hroom]

theorem exec_linkTransaction_request {c : Instr} (h : parseFrame bytes = .request c) :
    exec (.linkTransaction bytes) s = exec c (s.shiftOut bytes.length) := by
  rw [exec, execLinkTransaction]
  simp only [h, execRequest_eq, requestTag_isSome_of_parseFrame h, if_true]

end

/-- Settles O11: the transaction by what its bytes carry, and the bytes by the frames of section 11.9. -/
theorem linkTransactions : Obligations.LinkTransactions := by
  refine ⟨?_, fun bytes c s => exec_linkTransaction_request s, fun bytes tag s => exec_linkTransaction_bad s,
    fun bytes => parseFrame_short, ?_⟩
  · intro bytes s none frame
    rw [exec_linkTransaction_noRequest s (parseFrame_noRequest none), State.shiftOut_eq]
    cases bytes <;> rfl
  · intro code tag high low more hcode n records takes
    exact ⟨parseFrame_taken tag hcode, parseFrame_malformed tag hcode⟩

end Sys2Proof.Machine
end

section
namespace Sys2Proof.Machine

/-! ### The step and the queue of commands -/

/-- The command at the front is taken off the queue before it runs (the model's own queue, assumption 2). -/
theorem step_of_pending_cons {s : State} {c : Instr} {rest : List Instr} (h : s.pending = c :: rest) :
    step s = exec c { s with pending := rest } := by
  rw [step, h]

/-- The part idles while no command waits (assumption 2). -/
theorem step_of_pending_nil {s : State} (h : s.pending = []) : step s = .next s := by
  rw [step, h]

/-- Settles O1, by the two forms of the queue. -/
theorem stepRunsTheFrontCommand : Obligations.StepRunsTheFrontCommand :=
  ⟨fun _ _ _ => step_of_pending_cons, fun _ => step_of_pending_nil⟩

end Sys2Proof.Machine
end
